-- ==== Sys2Proof/Word.lean ====
section
/-! DEFINITION. The byte and the byte sequence (00_scope.md R7, R11). -/

namespace Sys2Proof

/-- R7: the byte is 8 bits; bits are numbered 7 down to 0 (R10). -/
abbrev Byte := BitVec 8

/-- R11: a byte sequence is a finite list of bytes, indexed from 0. -/
abbrev Bytes := List Byte

end Sys2Proof
end

