-- ==== Sys2Proof/Config.lean ====
section
/-! DEFINITION. What an implementation fixes (00_scope.md R9) and the values the spec leaves unspecified.
The constants R8 fixes are in Decode.lean and Machine/Ops.lean, where a repair can reach them. -/

namespace Sys2Proof

/-- The build parameters of R9 that the block's behaviour depends on, `none` meaning unbounded. They are data
of State that no step writes, so a statement about every state holds for every build (log 15). -/
structure Config where
  /-- D18: the longest request a host can make. -/
  MAX_PAYLOAD_LEN : Option Nat
  /-- D19: how many instances the build has. -/
  N_INSTANCES : Option Nat
  /-- D32: how many report records RQ can hold. -/
  RQ_DEPTH : Option Nat
  deriving DecidableEq, Repr

/-- FREE VALUE (log 5): what CS_ACC holds after a composite operation (10_state.md R35, D36 "a model may leave
any value"). Applied to the draw counter of State; nothing can be proved about a value of it. -/
opaque Config.freeCsAcc : Nat → Byte

/-- FREE VALUE (log 5): what BCD_ACC holds where R35 and D36 leave it unspecified. -/
opaque Config.freeBcdAcc : Nat → BitVec 48

/-- D20: DIAG_TEXT, the host's fixed diagnostic text for a bad frame, never given (log 16). -/
opaque Config.diagText : Bytes

end Sys2Proof
end

