-- ==== Sys2Proof/Syntax.lean ====
section
/-! DEFINITION. The instructions: one constructor per row of spec/opcode_table.json (30_encoding.md R70, R77,
R79, R80, R82), and the encoding format each row belongs to. -/

namespace Sys2Proof

/-- R70: the four encoded formats that select an action. What is fetched next is read in the format of the
place it is fetched from, so the same bits may stand for different instructions in different formats. -/
inductive Format where
  /-- The 3-bit operation select of a transaction (R80). -/
  | opsel3
  /-- The 16-bit CommandId PARSE dispatches on (R79). -/
  | cmdid16
  /-- An escape unit inside a stuffed sequence (R77). -/
  | esc
  /-- The 16-bit reply command id (R76, R82). -/
  | reply
  deriving DecidableEq, Repr

inductive Instr where
  -- OPSEL3: a whole transaction; the operand is IN
  /-- UNSTUFF, R120. -/
  | unstuff
  /-- STUFF, R123. -/
  | stuff
  /-- CHECKSUM, R150. -/
  | checksum
  /-- BCD2DEC, R101. -/
  | bcd2dec
  /-- BCD2TS, R103. -/
  | bcd2ts
  /-- PARSE, R170. -/
  | parse
  /-- BUILD8001, R242. -/
  | build8001
  /-- BUILD8100, R243. -/
  | build8100
  -- CMDID16: the action PARSE dispatches to
  /-- LOC_REPORT 0x0200, R178. -/
  | locReport
  /-- BATCH_LOC 0x0704, R179. -/
  | batchLoc
  /-- REGISTER 0x0100, R180. -/
  | register
  /-- HEARTBEAT 0x0002, R181. -/
  | heartbeat
  /-- AUTH2 0x0102, R181. -/
  | auth2
  /-- UNRECOGNIZED, R182: any other CommandId, kept as received. -/
  | unrecognized (cmd : BitVec 16)
  -- ESC: an escape unit
  /-- ESC_FLAG 7D 02, R120. -/
  | escFlag
  /-- ESC_ESC 7D 01, R120. -/
  | escEsc
  /-- ESC_OTHER 7D xx, the fallback of R120; the partner byte as received. -/
  | escOther (partner : Byte)
  /-- ESC_TRAILING, a 7D with no next byte, R121. -/
  | escTrailing
  -- REPLY: the reply frame of a given reply command id
  /-- REPLY_8001, R242. -/
  | reply8001
  /-- REPLY_8100, R243. -/
  | reply8100
  deriving DecidableEq, Repr

/-- The format a row of the opcode table belongs to (its "format" entry). -/
def Instr.format : Instr → Format
  | .unstuff => .opsel3
  | .stuff => .opsel3
  | .checksum => .opsel3
  | .bcd2dec => .opsel3
  | .bcd2ts => .opsel3
  | .parse => .opsel3
  | .build8001 => .opsel3
  | .build8100 => .opsel3
  | .locReport => .cmdid16
  | .batchLoc => .cmdid16
  | .register => .cmdid16
  | .heartbeat => .cmdid16
  | .auth2 => .cmdid16
  | .unrecognized _ => .cmdid16
  | .escFlag => .esc
  | .escEsc => .esc
  | .escOther _ => .esc
  | .escTrailing => .esc
  | .reply8001 => .reply
  | .reply8100 => .reply

end Sys2Proof
end

