-- ==== Sys2Proof/WellFormed.lean ====
section
/-! DEFINITION. Which instruction terms some encoding stands for: the two rows with an operand exclude the
values of the rows above them (30_encoding.md R77, R79). -/

namespace Sys2Proof

/-- R79: "any other" CommandId is one outside the five handled values. -/
def unhandledCommand (cmd : BitVec 16) : Bool :=
  cmd != 0x0200 && cmd != 0x0704 && cmd != 0x0100 && cmd != 0x0002 && cmd != 0x0102

/-- R77: the fallback is for partner bytes outside {01, 02}. -/
def fallbackPartner (partner : Byte) : Bool :=
  partner != 0x01 && partner != 0x02

def Instr.wellFormed : Instr → Bool
  | .unstuff => true
  | .stuff => true
  | .checksum => true
  | .bcd2dec => true
  | .bcd2ts => true
  | .parse => true
  | .build8001 => true
  | .build8100 => true
  | .locReport => true
  | .batchLoc => true
  | .register => true
  | .heartbeat => true
  | .auth2 => true
  | .unrecognized cmd => unhandledCommand cmd
  | .escFlag => true
  | .escEsc => true
  | .escOther partner => fallbackPartner partner
  | .escTrailing => true
  | .reply8001 => true
  | .reply8100 => true

end Sys2Proof
end

