-- ==== Sys2Proof/Decode.lean ====
section
/-! DEFINITION. From bytes to instructions and back (30_encoding.md section 3). Every format is read from bytes
in wire order, 16-bit words most significant byte first (20_memory.md R53, D12). Decoding is total on any bytes
and rejects by name. -/

namespace Sys2Proof

/-! ## The constants of 00_scope.md R8 that encodings use -/

/-- R8: FLAG. -/
def FLAG : Byte := 0x7E
/-- R8: ESC. -/
def ESC : Byte := 0x7D
/-- R8: ESC_FLAG_CODE, the partner byte that decodes to FLAG. -/
def ESC_FLAG_CODE : Byte := 0x02
/-- R8: ESC_ESC_CODE, the partner byte that decodes to ESC. -/
def ESC_ESC_CODE : Byte := 0x01

/-- R79: the CommandIds PARSE handles. -/
def CMD_LOC_REPORT : BitVec 16 := 0x0200
def CMD_BATCH_LOC : BitVec 16 := 0x0704
def CMD_REGISTER : BitVec 16 := 0x0100
def CMD_HEARTBEAT : BitVec 16 := 0x0002
def CMD_AUTH2 : BitVec 16 := 0x0102

/-- R8, R82: ACK_GENERAL and ACK_REGISTER, the two reply command ids. -/
def ACK_GENERAL : BitVec 16 := 0x8001
def ACK_REGISTER : BitVec 16 := 0x8100

/-- The two bytes of a 16-bit word, most significant first (R53; R240 `be16bytes`). -/
def bytes16 (w : BitVec 16) : Bytes :=
  [w.extractLsb' 8 8, w.extractLsb' 0 8]

/-! ## The decoders, one per format -/

/-- R80: OPSEL3. All eight values are defined. -/
def decodeOpsel (op : BitVec 3) : Instr :=
  if op = 0 then .unstuff
  else if op = 1 then .stuff
  else if op = 2 then .checksum
  else if op = 3 then .bcd2dec
  else if op = 4 then .bcd2ts
  else if op = 5 then .parse
  else if op = 6 then .build8001
  else .build8100

/-- R79: CMDID16, exact comparison of all 16 bits; every other value is UNRECOGNIZED. -/
def decodeCommand (cmd : BitVec 16) : Instr :=
  if cmd = CMD_LOC_REPORT then .locReport
  else if cmd = CMD_BATCH_LOC then .batchLoc
  else if cmd = CMD_REGISTER then .register
  else if cmd = CMD_HEARTBEAT then .heartbeat
  else if cmd = CMD_AUTH2 then .auth2
  else .unrecognized cmd

/-- R77: the unit a 0x7D and its partner byte make. -/
def decodePartner (partner : Byte) : Instr :=
  if partner = ESC_FLAG_CODE then .escFlag
  else if partner = ESC_ESC_CODE then .escEsc
  else .escOther partner

/-- R82: the reply command ids, only two. -/
def decodeReply (rc : BitVec 16) : Option Instr :=
  if rc = ACK_GENERAL then some .reply8001
  else if rc = ACK_REGISTER then some .reply8100
  else none

/-- Why bytes stand for no instruction of a format. -/
inductive Reject where
  /-- Fewer bytes than the format has. -/
  | truncated
  /-- An operation select is 3 bits; the byte that carries it has a bit above them set. -/
  | opselOverThreeBits
  /-- An escape unit starts with 0x7D (R84). -/
  | notAnEscape
  /-- Only 0x8001 and 0x8100 are reply command ids (R82). -/
  | notAReplyId
  deriving DecidableEq, Repr

/-- The first instruction of a byte sequence read in a format, and the bytes after it. -/
def decode : Format → Bytes → Except Reject (Instr × Bytes)
  | .opsel3, [] => .error .truncated
  | .opsel3, b :: rest =>
      if b.extractLsb' 3 5 = 0 then .ok (decodeOpsel (b.extractLsb' 0 3), rest)
      else .error .opselOverThreeBits
  | .cmdid16, [] => .error .truncated
  | .cmdid16, [_] => .error .truncated
  | .cmdid16, hi :: lo :: rest => .ok (decodeCommand (hi ++ lo), rest)
  | .esc, [] => .error .truncated
  | .esc, [b] => if b = ESC then .ok (.escTrailing, []) else .error .notAnEscape
  | .esc, b :: x :: rest =>
      if b = ESC then .ok (decodePartner x, rest) else .error .notAnEscape
  | .reply, [] => .error .truncated
  | .reply, [_] => .error .truncated
  | .reply, hi :: lo :: rest =>
      match decodeReply (hi ++ lo) with
      | some i => .ok (i, rest)
      | none => .error .notAReplyId

/-! ## The encoder -/

/-- The bytes of an instruction, in wire order, from the opcode tables of R77, R79, R80 and R82. -/
def encode : Instr → Bytes
  | .unstuff => [0x00]
  | .stuff => [0x01]
  | .checksum => [0x02]
  | .bcd2dec => [0x03]
  | .bcd2ts => [0x04]
  | .parse => [0x05]
  | .build8001 => [0x06]
  | .build8100 => [0x07]
  | .locReport => [0x02, 0x00]
  | .batchLoc => [0x07, 0x04]
  | .register => [0x01, 0x00]
  | .heartbeat => [0x00, 0x02]
  | .auth2 => [0x01, 0x02]
  | .unrecognized cmd => bytes16 cmd
  | .escFlag => [0x7D, 0x02]
  | .escEsc => [0x7D, 0x01]
  | .escOther partner => [0x7D, partner]
  | .escTrailing => [0x7D]
  | .reply8001 => [0x80, 0x01]
  | .reply8100 => [0x81, 0x00]

/-! ## The host's table words -/

/-- The format a bare table word of `nbits` bits is read in. A word alone does not say where it was fetched
from; a row's own match value picks its format, and a word no other row matches is a CommandId (log 13). -/
def tableFormat (nbits w : Nat) : Format :=
  if nbits = 8 then
    if w = 0x7D then .esc else .opsel3
  else if w / 256 = 0x7D then .esc
  else if w = 0x8001 || w = 0x8100 then .reply
  else .cmdid16

/-- The bytes of a table word as they stand in wire order: a byte, or a 16-bit word most significant byte first
(log 13). None where the word has another size or a bit above `nbits`. -/
def tableBytes (nbits w : Nat) : Option Bytes :=
  if nbits = 8 then
    if w < 256 then some [BitVec.ofNat 8 w] else none
  else if nbits = 16 then
    if w < 65536 then some (bytes16 (BitVec.ofNat 16 w)) else none
  else none

/-- What the decoder reads from a word of spec/opcode_table.json. -/
def decodeTableWord (nbits w : Nat) : Option Instr :=
  match tableBytes nbits w with
  | none => none
  | some bytes =>
    match decode (tableFormat nbits w) bytes with
    | .ok (i, _) => some i
    | .error _ => none

end Sys2Proof
end

