-- ==== Sys2Proof/Machine/State.lean ====
section
/-! DEFINITION. The state: every register of 10_state.md R21 for each instance, the instances side by side
(60_exceptions.md R278), the host's moves and what it has done outside (R279), and the reasons a step stops.
Plain data throughout. -/

namespace Sys2Proof.Machine

/-- One report record, the fields and widths of R30. -/
structure Report where
  DEV_RAW : BitVec 48
  DEV_DEC : BitVec 48
  LAT : BitVec 32
  LON : BitVec 32
  ALT : BitVec 16
  SPEED : BitVec 16
  DIR : BitVec 16
  TS_RAW : BitVec 48
  TS_Y : BitVec 12
  TS_MO : BitVec 8
  TS_D : BitVec 8
  TS_H : BitVec 8
  TS_MI : BitVec 8
  TS_S : BitVec 8
  VOLT : BitVec 8
  deriving DecidableEq, Repr

/-- MODEL's own (log 3): where a byte-serial transaction stands. A `next` is the index of the next IN byte a
byte-serial unit without a cursor register takes (R105, R127, R152). -/
inductive Phase where
  /-- No transaction runs. -/
  | idle
  /-- The transaction-start reset of R301 is done; the operation has not begun. -/
  | begin
  /-- UNSTUFF: the serial unstuffing machine of R126. -/
  | unstuff
  /-- STUFF: the serial stuffing machine of R127. -/
  | stuff (next : Nat)
  /-- CHECKSUM: the serial form of R152. -/
  | checksum (next : Nat)
  /-- BCD2DEC: the serial form of R105. -/
  | bcd2dec (next : Nat)
  /-- BCD2TS: one date-time byte a step (R310). -/
  | bcd2ts (next : Nat)
  /-- PARSE: the frame-sync machine of R171. -/
  | sync
  /-- PARSE: the header is loaded (R175); dispatch is next (R177). -/
  | dispatch
  /-- BUILD8001 or BUILD8100: the reply of this command id is built next. -/
  | reply (rc : BitVec 16)
  deriving DecidableEq, Repr

/-- One thing the host must do outside with the result of a PARSE (R279). -/
inductive Duty where
  /-- Call `publishLocation` with one record of RQ. -/
  | publish (report : Report)
  /-- Write the reply verbatim to the connection. -/
  | writeReply (frame : Bytes)
  /-- Write DIAG_TEXT in place of a reply. -/
  | writeDiag
  /-- Drop the MALFORMED message and log it. -/
  | drop
  deriving DecidableEq, Repr

/-- The host's side of one connection (R20, R279): no register of the instance, which neither reads nor clears
it (log 25). -/
structure Session where
  /-- The payloads delivered, already reassembled, that no PARSE has taken yet, oldest first (log 18). -/
  inbound : List Bytes
  /-- What the host still owes for results it has seen, next one first (R63, R307; log 17). -/
  owed : List Duty
  deriving DecidableEq, Repr

/-- One codec instance: the registers of R21, under their own names, then the model's own two fields. Cursors are
naturals (log 23). -/
structure Codec where
  OPSEL : BitVec 3
  BUSY : Bool
  STATUS : BitVec 3
  IN : Bytes
  OUT : Bytes
  REPLY_VALID : Bool
  RESULT : BitVec 48
  TS_Y : BitVec 12
  TS_MO : BitVec 8
  TS_D : BitVec 8
  TS_H : BitVec 8
  TS_MI : BitVec 8
  TS_S : BitVec 8
  RQ : List Report
  FS_STATE : BitVec 2
  FIRST_OK : Bool
  LAST_BYTE : Byte
  IN_POS : Nat
  U : Bytes
  H_CMD : BitVec 16
  H_DEV : BitVec 48
  H_SEQ : BitVec 16
  B_COUNT : BitVec 16
  B_ITER : BitVec 16
  B_POS : Nat
  CS_ACC : Byte
  BCD_ACC : BitVec 48
  /-- MODEL's own (log 3). -/
  phase : Phase
  /-- MODEL's own (log 25): the host's side of the connection this instance serves. -/
  session : Session
  deriving DecidableEq, Repr

/-- NIN, the length of IN (R27; log 14, log 19). -/
abbrev Codec.NIN (c : Codec) : Nat := c.IN.length
/-- NOUT, the length of OUT (R28). -/
abbrev Codec.NOUT (c : Codec) : Nat := c.OUT.length
/-- NU, the length of U (R32). -/
abbrev Codec.NU (c : Codec) : Nat := c.U.length
/-- NREP, 16 bits, the number of records in RQ (R30). -/
abbrev Codec.NREP (c : Codec) : BitVec 16 := BitVec.ofNat 16 c.RQ.length

/-- The power-on reset of R300, every register at the value its table gives. -/
def Codec.reset : Codec where
  OPSEL := 0
  BUSY := false
  STATUS := 0
  IN := []
  OUT := []
  REPLY_VALID := false
  RESULT := 0
  TS_Y := 0
  TS_MO := 0
  TS_D := 0
  TS_H := 0
  TS_MI := 0
  TS_S := 0
  RQ := []
  FS_STATE := 0
  FIRST_OK := false
  LAST_BYTE := 0x00
  IN_POS := 0
  U := []
  H_CMD := 0
  H_DEV := 0
  H_SEQ := 0
  B_COUNT := 0
  B_ITER := 0
  B_POS := 0
  CS_ACC := 0x00
  BCD_ACC := 0
  phase := .idle
  session := { inbound := [], owed := [] }

/-- One move, by the listener, the host or an instance (R20, R279). `k` is the connection. -/
inductive Move where
  /-- The host: connection `k` opens; its instance is created idle in the reset state (R278). -/
  | openConn (k : Nat)
  /-- The host: connection `k` closes or fails; its instance is discarded (R278, R279). -/
  | closeConn (k : Nat)
  /-- A payload for connection `k` is delivered by the listener, already reassembled (R279, R305). -/
  | arrive (k : Nat) (payload : Bytes)
  /-- The host writes OPSEL, IN and NIN of an idle instance (R23, R27). -/
  | load (k : Nat) (opsel : BitVec 3) (operand : Bytes)
  /-- The host issues the loaded request, and the whole transaction runs as one step (R59; log 2). -/
  | issue (k : Nat)
  /-- The host issues the loaded request, to run byte-serially: only the reset of R301 is done (log 2). -/
  | start (k : Nat)
  /-- Instance `k` takes one byte-serial step (R310). -/
  | run (k : Nat)
  /-- The host does the next thing it owes for a result of instance `k` (R279). -/
  | collect (k : Nat)
  deriving DecidableEq, Repr

/-- What the host did to the outside on behalf of connection `k` (R279), in the order it did it. -/
inductive Event where
  /-- `publishLocation`, once per record (R279). -/
  | published (k : Nat) (report : Report)
  /-- The reply, written verbatim to the connection (R28, R279). -/
  | wroteReply (k : Nat) (frame : Bytes)
  /-- DIAG_TEXT, written in place of a reply (R279). -/
  | wroteDiag (k : Nat) (text : Bytes)
  /-- A MALFORMED message dropped and logged (R279, D33). -/
  | dropped (k : Nat)
  /-- The connection closed, logged (R279). -/
  | closed (k : Nat)
  deriving DecidableEq, Repr

/-- The whole machine: the instance whose turn it is, the others, and the host (log 1, log 4). -/
structure State where
  /-- The build parameters; no step writes them. -/
  cfg : Config
  /-- The connection `cur` serves; none when the instance last served was discarded. -/
  port : Option Nat
  /-- The instance whose turn it is. -/
  cur : Codec
  /-- The other instances with their connections, connections strictly rising. -/
  others : List (Nat × Codec)
  /-- The coming moves, the next one first. -/
  script : List Move
  /-- What the host has done outside, oldest first. -/
  events : List Event
  /-- How many free values have been drawn (log 5). -/
  frees : Nat
  deriving DecidableEq, Repr

/-- Right after power-on: one instance, created idle in the reset state (R300, R302), no move scheduled (log 24). -/
def State.reset : State where
  cfg := { MAX_PAYLOAD_LEN := none, N_INSTANCES := none, RQ_DEPTH := none }
  port := some 0
  cur := Codec.reset
  others := []
  script := []
  events := []
  frees := 0

/-- The spec has no trap, so a fault is only for a state the spec says never occurs (log 9). -/
inductive Fault where
  /-- Raised by a byte-serial step when FS_STATE is 3, which R31 says never occurs. SAFE: the model stops. -/
  | fsStateThree
  /-- Raised by a byte-serial step when the latched word to decode names no instruction: a reply command id
  other than 0x8001 and 0x8100 (R82). SAFE: the model stops. -/
  | undecodable
  deriving DecidableEq, Repr

/-- Moves the spec gives the host no way to make, and builds too small for a payload. -/
inductive Refusal where
  /-- Raised by exec for an instruction without a meaning. SAFE. -/
  | notModelled (mnemonic : String)
  /-- Raised by step for a host move on a busy instance (R280 "A model gives the host no such move").
  UNSAFE for a host that breaks the rule, as D26 says. -/
  | hostWhileBusy
  /-- Raised by step when a transaction is issued while the reply of a PARSE that ended OK is still owed: R63
  "It must write that reply before it issues the next transaction on the same instance". After any other status
  nothing holds the next transaction back (R271). UNSAFE for a host that breaks the rule. -/
  | resultNotCollected
  /-- Raised by step when the host would pass PARSE anything but the oldest payload delivered: R279 and R305
  give it no move that splits or joins frames, and item 13 of 93_implementation_defined.md says refuse. UNSAFE
  for a host that breaks the rule. -/
  | payloadNotDelivered
  /-- Raised by step for a request longer than MAX_PAYLOAD_LEN (R27 "The model refuses it"), and for the delivery
  of such a payload (log 27). SAFE (D18). -/
  | payloadTooLong
  /-- Raised by a PARSE that yields more reports than RQ_DEPTH (D32 "the model refuses it"). SAFE (D32). -/
  | reportQueueTooSmall
  /-- Raised by step for a move on a connection that is not open. SAFE. -/
  | connectionNotOpen
  /-- Raised by step when a connection opens that is open already. SAFE. -/
  | connectionAlreadyOpen
  /-- Raised by step when more than N_INSTANCES connections would be open (D19). SAFE. -/
  | noFreeInstance
  deriving DecidableEq, Repr

/-- How a step or a meaning ends. -/
abbrev Result := Host.Outcome State Fault Refusal

end Sys2Proof.Machine
end

