-- ==== Sys2Proof/Machine/Operands.lean ====
section
/-! DEFINITION. How operands are assembled from bytes (30_encoding.md R78): big-endian unsigned fields, BCD and
opaque copies (20_memory.md R53 to R55). -/

namespace Sys2Proof.Machine

/-- `B[i]` (R11). Every rule guards its reads (R51), so the value past the end is never used (log 21). -/
def byteAt (B : Bytes) (i : Nat) : Byte := B.getD i 0

/-- `B[a..b)`, half-open (R11). -/
def slice (B : Bytes) (a b : Nat) : Bytes := (B.drop a).take (b - a)

/-- R12: `be16(B, a)`, the byte at the lowest index most significant (R53). -/
def be16 (B : Bytes) (a : Nat) : BitVec 16 := byteAt B a ++ byteAt B (a + 1)

/-- R12: `be32(B, a)`. -/
def be32 (B : Bytes) (a : Nat) : BitVec 32 := be16 B a ++ be16 B (a + 2)

/-- R54: six opaque bytes held in a 48-bit register, the byte at the lowest index most significant. -/
def be48 (B : Bytes) (a : Nat) : BitVec 48 := be16 B a ++ be32 B (a + 2)

/-- R54: the six bytes of a 48-bit register in wire order. -/
def bytes48 (w : BitVec 48) : Bytes :=
  [w.extractLsb' 40 8, w.extractLsb' 32 8, w.extractLsb' 24 8,
   w.extractLsb' 16 8, w.extractLsb' 8 8, w.extractLsb' 0 8]

/-- R100: the digit-pair value of a byte, nibbles taken as they are, high nibble first (R55). -/
def bcdPair (b : Byte) : Nat := (b.extractLsb' 4 4).toNat * 10 + (b.extractLsb' 0 4).toNat

/-- R101: `bcdToDecimal`, total on every sequence, on naturals (R102). -/
def bcdToDecimal (B : Bytes) : Nat := B.foldl (fun acc b => acc * 100 + bcdPair b) 0

/-- R8: YEAR_BASE. -/
def YEAR_BASE : Nat := 2000

/-- R103: the year component, in 2000..2165. -/
def bcdYear (b : Byte) : BitVec 12 := BitVec.ofNat 12 (YEAR_BASE + bcdToDecimal [b])

/-- R103: any other date-time component, in 0..165. -/
def bcdField (b : Byte) : BitVec 8 := BitVec.ofNat 8 (bcdToDecimal [b])

end Sys2Proof.Machine
end

