-- ==== Sys2Proof/Machine/Flags.lean ====
section
/-! DEFINITION. The codes of the status register and of the frame-sync state (60_exceptions.md R270,
10_state.md R31). The block has no other flags than STATUS, REPLY_VALID and BUSY (R36). -/

namespace Sys2Proof.Machine

/-- R270: the status codes a transaction can end with. -/
inductive Status where
  | ok
  | invalidFrame
  | unrecognizedCommand
  | malformed
  | badOperand
  deriving DecidableEq, Repr

/-- R270: the number of each status; 5 to 7 are never produced (R24). -/
def Status.code : Status → BitVec 3
  | .ok => 0
  | .invalidFrame => 1
  | .unrecognizedCommand => 2
  | .malformed => 3
  | .badOperand => 4

/-- R31: the frame-sync states; the value 3 never occurs. -/
def FS_START : BitVec 2 := 0
def FS_DATA : BitVec 2 := 1
def FS_ESC : BitVec 2 := 2

/-- R80: the operation selects the host side and the byte-serial sequencer tell apart. -/
def OP_UNSTUFF : BitVec 3 := 0
def OP_STUFF : BitVec 3 := 1
def OP_CHECKSUM : BitVec 3 := 2
def OP_BCD2DEC : BitVec 3 := 3
def OP_BCD2TS : BitVec 3 := 4
def OP_PARSE : BitVec 3 := 5
def OP_BUILD8001 : BitVec 3 := 6

end Sys2Proof.Machine
end

