-- ==== Sys2Proof/Machine/Ops.lean ====
section
/-! DEFINITION. The operations the meanings share: starting and ending a transaction, raising a status (which
stands where other machines take an exception), writing an instance back, and serving one instance of several. -/

namespace Sys2Proof.Machine

/-! ## A transaction's start and end -/

/-- R301: BUSY is set and every register but OPSEL and IN takes its R300 value. `ph` is where the sequencer
goes; the host's side stays as it is. -/
def Codec.begin (ph : Phase) (c : Codec) : Codec :=
  { Codec.reset with OPSEL := c.OPSEL, IN := c.IN, BUSY := true, phase := ph, session := c.session }

/-- R25, R270: the transaction ends with a status; BUSY falls. -/
def Codec.complete (st : Status) (c : Codec) : Codec :=
  { c with STATUS := st.code, BUSY := false, phase := .idle }

/-- `raise Status(code)` (R12, R271): the transaction ends at once, RQ empty, no reply, no OUT, RESULT and TS_*
at their transaction-start values. Nothing else is recorded (R274); the internal registers stay as reached
(log 20). -/
def Codec.raise (st : Status) (c : Codec) : Codec :=
  { c with
    STATUS := st.code, BUSY := false, phase := .idle
    OUT := [], REPLY_VALID := false, RQ := [], RESULT := 0
    TS_Y := 0, TS_MO := 0, TS_D := 0, TS_H := 0, TS_MI := 0, TS_S := 0 }

/-- R184: a PARSE ends OK with the reply it built. -/
def Codec.answer (frame : Bytes) (c : Codec) : Codec :=
  { c with
    OUT := frame, REPLY_VALID := true
    STATUS := Status.code .ok, BUSY := false, phase := .idle }

/-! ## Writing the instance back -/

/-- The instance becomes `c`; nothing else changes. -/
def State.put (c : Codec) (s : State) : Result := .next { s with cur := c }

/-- The end of a composite operation: CS_ACC and BCD_ACC are unspecified afterwards (R35, D36), so each takes a
free value (log 5). -/
def State.putComposite (c : Codec) (s : State) : Result :=
  .next { s with
    cur := { c with
      CS_ACC := Config.freeCsAcc s.frees
      BCD_ACC := Config.freeBcdAcc s.frees }
    frees := s.frees + 1 }

/-- Whether a count is within a build parameter, `none` being unbounded. -/
def admits (limit : Option Nat) (n : Nat) : Bool :=
  match limit with
  | none => true
  | some m => n ≤ m

/-- R279: what the host must do with the result of a PARSE: publish every record in RQ order and then write OUT
verbatim (R63, R307), or write DIAG_TEXT, or nothing, or drop the message. -/
def Codec.duties (c : Codec) : List Duty :=
  if c.STATUS = Status.code .ok then c.RQ.map Duty.publish ++ [.writeReply c.OUT]
  else if c.STATUS = Status.code .invalidFrame then [.writeDiag]
  else if c.STATUS = Status.code .malformed then [.drop]
  else []

/-- The host owes more, after what it owes already. -/
def Session.owe (duties : List Duty) (x : Session) : Session :=
  { x with owed := x.owed ++ duties }

/-- Whether a duty is the writing of a reply. -/
def Duty.isReply : Duty → Bool
  | .publish _ => false
  | .writeReply _ => true
  | .writeDiag => false
  | .drop => false

/-- R63: whether the reply of a PARSE that ended OK is still to be written. It is the last thing owed for that
PARSE, so its reports are owed no longer than it is. -/
def Session.owesReply (x : Session) : Bool := x.owed.any Duty.isReply

/-- The host's side moves, the instance does not. -/
def Codec.withSession (x : Session) (c : Codec) : Codec := { c with session := x }

/-- The end of a PARSE: the host sees the result as BUSY falls and owes what R279 asks for it (log 25), and a build
whose RQ_DEPTH is below the reports yielded is refused (D32). -/
def State.putParse (c : Codec) (s : State) : Result :=
  if admits s.cfg.RQ_DEPTH c.RQ.length then s.putComposite (c.withSession (c.session.owe c.duties))
  else .refused .reportQueueTooSmall

/-! ## Several instances (R278, log 1) -/

/-- An instance put among the others, connections kept rising. -/
def insertConn (k : Nat) (c : Codec) : List (Nat × Codec) → List (Nat × Codec)
  | [] => [(k, c)]
  | (j, d) :: rest =>
      if k < j then (k, c) :: (j, d) :: rest
      else if k = j then (k, c) :: rest
      else (j, d) :: insertConn k c rest

/-- The others without connection `k`. -/
def removeConn (k : Nat) (l : List (Nat × Codec)) : List (Nat × Codec) :=
  l.filter fun p => p.1 != k

/-- The instance of connection `k` among the others. -/
def findConn (k : Nat) : List (Nat × Codec) → Option Codec
  | [] => none
  | (j, c) :: rest => if k = j then some c else findConn k rest

/-- The instance that serves connection `k`, wherever it is held. -/
def State.conn (s : State) (k : Nat) : Option Codec :=
  if s.port = some k then some s.cur else findConn k s.others

/-- The instances apart from the one to be served next: the served one, if any, is put back among them. -/
def State.parked (s : State) : List (Nat × Codec) :=
  match s.port with
  | none => s.others
  | some j => insertConn j s.cur s.others

/-- The turn goes to the instance of connection `k`, if that is open. -/
def State.select (k : Nat) (s : State) : Option State :=
  if s.port = some k then some s
  else match findConn k s.others with
    | none => none
    | some c => some { s with port := some k, cur := c, others := removeConn k s.parked }

end Sys2Proof.Machine
end

