-- ==== Sys2Proof/Machine/Bcd.lean ====
section
/-! DEFINITION. The BCD codec (40_bcd.md): the serial form R105, BCD2DEC and BCD2TS. -/

namespace Sys2Proof.Machine

/-- R9, D29: BCD_MAX_BYTES. -/
def BCD_MAX_BYTES : Nat := 6

/-- R105: one byte step, in the 48-bit accumulator. -/
def Codec.bcdByte (c : Codec) (b : Byte) : Codec :=
  { c with BCD_ACC := c.BCD_ACC * 100 + BitVec.ofNat 48 (bcdPair b) }

/-- R101: the accumulator goes to RESULT. -/
def Codec.bcdDone (c : Codec) : Codec :=
  ({ c with RESULT := c.BCD_ACC }).complete .ok

/-- BCD2DEC, R101: BAD_OPERAND for more than six bytes, tested before anything is computed (R273). -/
def execBcd2dec (s : State) : Result :=
  let c := s.cur.begin (.bcd2dec 0)
  if c.NIN > BCD_MAX_BYTES then s.put (c.raise .badOperand)
  else s.put (c.IN.foldl Codec.bcdByte c).bcdDone

/-- R103: one date-time byte goes to its register: year, month, day, hour, minute, second. -/
def Codec.tsByte (i : Nat) (b : Byte) (c : Codec) : Codec :=
  match i with
  | 0 => { c with TS_Y := bcdYear b }
  | 1 => { c with TS_MO := bcdField b }
  | 2 => { c with TS_D := bcdField b }
  | 3 => { c with TS_H := bcdField b }
  | 4 => { c with TS_MI := bcdField b }
  | _ => { c with TS_S := bcdField b }

/-- One of the six steps of BCD2TS (R310). It uses bcdToDecimal inside, so BCD_ACC is unspecified after it
(R35): a free value (log 5, log 6). -/
def State.tsStep (s : State) (i : Nat) : State :=
  { s with
    cur := { s.cur.tsByte i (byteAt s.cur.IN i) with BCD_ACC := Config.freeBcdAcc s.frees }
    frees := s.frees + 1 }

/-- BCD2TS, R103: BAD_OPERAND unless there are exactly six bytes; no component is range-checked. -/
def execBcd2ts (s : State) : Result :=
  let s := { s with cur := s.cur.begin (.bcd2ts 0) }
  if s.cur.NIN ≠ 6 then s.putComposite (s.cur.raise .badOperand)
  else
    let s := (List.range 6).foldl State.tsStep s
    s.putComposite (s.cur.complete .ok)

end Sys2Proof.Machine
end

