-- ==== Sys2Proof/Machine/Checksum.lean ====
section
/-! DEFINITION. The XOR checksum (42_checksum.md): the function of R150, its serial form R152, and CHECKSUM. -/

namespace Sys2Proof.Machine

/-- R150: `checksum`, the XOR of every byte, seed 0. -/
def checksum (B : Bytes) : Byte := B.foldl (fun acc b => acc ^^^ b) 0x00

/-- R152: one byte step. -/
def Codec.checksumByte (c : Codec) (b : Byte) : Codec := { c with CS_ACC := c.CS_ACC ^^^ b }

/-- R150: the accumulator goes to RESULT, zero-extended. -/
def Codec.checksumDone (c : Codec) : Codec :=
  ({ c with RESULT := c.CS_ACC.setWidth 48 }).complete .ok

/-- CHECKSUM, R150. No input fails. -/
def execChecksum (s : State) : Result :=
  s.put (s.cur.IN.foldl Codec.checksumByte (s.cur.begin (.checksum 0))).checksumDone

end Sys2Proof.Machine
end

