-- ==== Sys2Proof/Machine/Stuffing.lean ====
section
/-! DEFINITION. The byte-stuffing codec (41_stuffing.md) and the frame-sync machine (43_parser.md R171): the
functions of R120 and R123, their byte-serial machines, and the meanings of UNSTUFF, STUFF and the four escape
units. The meanings run the byte-serial machines; R128's laws tie them to the functions. -/

namespace Sys2Proof.Machine

/-! ## The functions -/

/-- R120, R121: `unstuff`, the source's scan. -/
def unstuff : Bytes → Bytes
  | [] => []
  | [b] => [b]
  | b :: x :: rest =>
      if b = ESC then
        if x = ESC_FLAG_CODE then FLAG :: unstuff rest
        else if x = ESC_ESC_CODE then ESC :: unstuff rest
        else b :: x :: unstuff rest
      else b :: unstuff (x :: rest)

/-- R123, R127: what one byte is stuffed to. -/
def stuffUnit (b : Byte) : Bytes :=
  if b = FLAG then [ESC, ESC_FLAG_CODE]
  else if b = ESC then [ESC, ESC_ESC_CODE]
  else [b]

/-- R123: `stuff`. -/
def stuff (X : Bytes) : Bytes := X.flatMap stuffUnit

/-! ## The unstuffing and frame-sync machine

One machine serves both operations (R126 "the stuffing reversal half of the frame-sync machine"). With
`sync = true` it is PARSE's: it writes U and keeps FIRST_OK and LAST_BYTE. With `sync = false` it is UNSTUFF's:
it writes OUT and no delimiter register (log 7). -/

/-- Append to the machine's output buffer. -/
def Codec.emit (sync : Bool) (bytes : Bytes) (c : Codec) : Codec :=
  { c with
    U := if sync then c.U ++ bytes else c.U
    OUT := if sync then c.OUT else c.OUT ++ bytes }

/-- R126, R171: on every byte, IN_POS rises by one; the frame-sync machine also records the byte. -/
def Codec.consume (sync : Bool) (b : Byte) (c : Codec) : Codec :=
  { c with
    IN_POS := c.IN_POS + 1
    LAST_BYTE := if sync then b else c.LAST_BYTE }

/-- R171, the rows of FS_START and FS_DATA: a byte with no escape pending. -/
def Codec.plainByte (sync : Bool) (b : Byte) (c : Codec) : Codec :=
  let c := { c with
    FIRST_OK := if sync && c.FS_STATE == FS_START then b == FLAG else c.FIRST_OK }
  if b = ESC then ({ c with FS_STATE := FS_ESC }).consume sync b
  else (({ c with FS_STATE := FS_DATA }).emit sync [b]).consume sync b

/-- R171, the rows of FS_ESC: the partner byte of a pending escape, with what the unit decodes to. -/
def Codec.escUnit (sync : Bool) (decoded : Bytes) (partner : Byte) (c : Codec) : Codec :=
  (({ c with FS_STATE := FS_DATA }).emit sync decoded).consume sync partner

/-- R171, FS_ESC: which of the three units a partner byte makes. -/
def Codec.partnerByte (sync : Bool) (b : Byte) (c : Codec) : Codec :=
  if b = ESC_FLAG_CODE then c.escUnit sync [FLAG] b
  else if b = ESC_ESC_CODE then c.escUnit sync [ESC] b
  else c.escUnit sync [ESC, b] b

/-- R126, R171: one byte step. -/
def Codec.syncByte (sync : Bool) (c : Codec) (b : Byte) : Codec :=
  if c.FS_STATE = FS_ESC then c.partnerByte sync b else c.plainByte sync b

/-- R121, R126 `finish`: a pending escape with no partner is emitted unchanged and is pending no more (log 8). -/
def Codec.trailingEscape (sync : Bool) (c : Codec) : Codec :=
  ({ c with FS_STATE := FS_DATA }).emit sync [ESC]

/-- R126, R171: the end of the input. -/
def Codec.finishSync (sync : Bool) (c : Codec) : Codec :=
  if c.FS_STATE = FS_ESC then c.trailingEscape sync else c

/-- R128, R171: one step per byte of IN in index order, then finish. -/
def Codec.syncAll (sync : Bool) (c : Codec) : Codec :=
  (c.IN.foldl (Codec.syncByte sync) c).finishSync sync

/-- Whether the running machine is PARSE's. -/
def Codec.syncing (c : Codec) : Bool := c.phase == .sync

/-! ## The stuffing machine -/

/-- R127: one byte step of the stuffing machine; it has no state of its own. -/
def Codec.stuffByte (c : Codec) (b : Byte) : Codec := { c with OUT := c.OUT ++ stuffUnit b }

/-! ## Meanings -/

/-- UNSTUFF, R120. No input fails. -/
def execUnstuff (s : State) : Result :=
  s.put (((s.cur.begin .unstuff).syncAll false).complete .ok)

/-- STUFF, R123. No input fails. -/
def execStuff (s : State) : Result :=
  s.put ((s.cur.IN.foldl Codec.stuffByte (s.cur.begin (.stuff 0))).complete .ok)

/-- ESC_FLAG `7D 02` decodes to 7E (R77, R120, R171). The unit's 0x7D is consumed already (FS_ESC); its second
byte is consumed here (log 10). -/
def execEscFlag (s : State) : Result :=
  s.put (s.cur.escUnit s.cur.syncing [FLAG] ESC_FLAG_CODE)

/-- ESC_ESC `7D 01` decodes to 7D (R77, R120, R171). -/
def execEscEsc (s : State) : Result :=
  s.put (s.cur.escUnit s.cur.syncing [ESC] ESC_ESC_CODE)

/-- ESC_OTHER `7D xx` decodes to itself, the fallback (R77, R120, R171); xx is not scanned again (R84). -/
def execEscOther (partner : Byte) (s : State) : Result :=
  s.put (s.cur.escUnit s.cur.syncing [ESC, partner] partner)

/-- ESC_TRAILING, a 7D with no next byte, decodes to itself (R121). Its one byte is consumed already. -/
def execEscTrailing (s : State) : Result :=
  s.put (s.cur.trailingEscape s.cur.syncing)

end Sys2Proof.Machine
end

