-- ==== Sys2Proof/Machine/Reply.lean ====
section
/-! DEFINITION. The reply builder (45_reply_builder.md): replyFrame, the two reply kinds, and the meanings of
BUILD8001, BUILD8100 and of the two reply command ids. -/

namespace Sys2Proof.Machine

/-- R240: header, body and checksum before stuffing, the message M of R76. -/
def replyMessage (rc : BitVec 16) (dev seq body : Bytes) : Bytes :=
  let header := bytes16 rc ++ bytes16 (BitVec.ofNat 16 body.length) ++ dev ++ seq
  header ++ body ++ [checksum (header ++ body)]

/-- R240: one reply frame, stuffed inside its two flags. -/
def replyFrame (rc : BitVec 16) (dev seq body : Bytes) : Bytes :=
  [FLAG] ++ stuff (replyMessage rc dev seq body) ++ [FLAG]

/-- R8, R244: ACK_GENERAL result code. -/
def ACK_GENERAL_RESULT : Byte := 0x00

/-- R8, R243: ACK_REGISTER trailer, opaque. -/
def ACK_REGISTER_TRAILER : Bytes := [0x00, 0x49, 0x00, 0x62, 0x46, 0x45]

/-- R242: the general acknowledgement. -/
def build8001 (dev seq cmd : Bytes) : Bytes :=
  replyFrame ACK_GENERAL dev seq (seq ++ cmd ++ [ACK_GENERAL_RESULT])

/-- R243: the registration acknowledgement. -/
def build8100 (dev seq : Bytes) : Bytes :=
  replyFrame ACK_REGISTER dev seq (seq ++ ACK_REGISTER_TRAILER)

/-- R242, operation form: DEV, SEQ and CMD are the ten bytes of IN; REPLY_VALID stays as it is. -/
def Codec.build8001Op (c : Codec) : Codec :=
  if c.NIN ≠ 10 then c.raise .badOperand
  else ({ c with OUT := build8001 (slice c.IN 0 6) (slice c.IN 6 8) (slice c.IN 8 10) }).complete .ok

/-- R243, operation form: DEV and SEQ are the eight bytes of IN. -/
def Codec.build8100Op (c : Codec) : Codec :=
  if c.NIN ≠ 8 then c.raise .badOperand
  else ({ c with OUT := build8100 (slice c.IN 0 6) (slice c.IN 6 8) }).complete .ok

/-- BUILD8001, R242: a whole transaction. -/
def execBuild8001 (s : State) : Result :=
  s.putComposite (s.cur.begin (.reply ACK_GENERAL)).build8001Op

/-- BUILD8100, R243: a whole transaction. -/
def execBuild8100 (s : State) : Result :=
  s.putComposite (s.cur.begin (.reply ACK_REGISTER)).build8100Op

/-- REPLY_8001, R76, R242: the reply-building step of a BUILD8001 that has begun (log 12). -/
def execReply8001 (s : State) : Result :=
  s.putComposite s.cur.build8001Op

/-- REPLY_8100, R76, R243: the reply-building step of a BUILD8100 that has begun (log 12). -/
def execReply8100 (s : State) : Result :=
  s.putComposite s.cur.build8100Op

end Sys2Proof.Machine
end

