-- ==== Sys2Proof/Machine/Report.lean ====
section
/-! DEFINITION. The location-report parser and the batch walker (44_report_parser.md), and the meanings of
LOC_REPORT and BATCH_LOC. They run on a PARSE whose header is loaded (43_parser.md R175). -/

namespace Sys2Proof.Machine

/-- R174: the shortest unstuffed message. -/
def NU_MIN : Nat := 15
/-- R8: HDR_END, the U index of the first body byte. -/
def HDR_END : Nat := 13
/-- R8: SR_MIN, the bytes a report body needs. -/
def SR_MIN : Nat := 28
/-- R8, R214: VOLT_CONST. -/
def VOLT_CONST : BitVec 8 := 12

/-- R176: BLEN, the length of the body. -/
def Codec.BLEN (c : Codec) : Nat := c.NU - NU_MIN

/-- R210 to R214: the record at U index `base`, the DeviceId from the header. -/
def reportAt (U : Bytes) (dev : BitVec 48) (base : Nat) : Report where
  DEV_RAW := dev
  DEV_DEC := BitVec.ofNat 48 (bcdToDecimal (bytes48 dev))
  LAT := be32 U (base + 8)
  LON := be32 U (base + 12)
  ALT := be16 U (base + 16)
  SPEED := be16 U (base + 18)
  DIR := be16 U (base + 20)
  TS_RAW := be48 U (base + 22)
  TS_Y := bcdYear (byteAt U (base + 22))
  TS_MO := bcdField (byteAt U (base + 23))
  TS_D := bcdField (byteAt U (base + 24))
  TS_H := bcdField (byteAt U (base + 25))
  TS_MI := bcdField (byteAt U (base + 26))
  TS_S := bcdField (byteAt U (base + 27))
  VOLT := VOLT_CONST

/-- R210: singleReport(base, lim), none where it raises MALFORMED. -/
def Codec.singleReport (c : Codec) (base lim : Nat) : Option Report :=
  if base + SR_MIN > lim then none else some (reportAt c.U c.H_DEV base)

/-- R242 inside PARSE: the 8001 reply to the message in U. -/
def Codec.ack8001 (c : Codec) : Bytes :=
  build8001 (bytes48 c.H_DEV) (bytes16 c.H_SEQ) (slice c.U 1 3)

/-- R243 inside PARSE: the 8100 reply to the message in U. -/
def Codec.ack8100 (c : Codec) : Bytes :=
  build8100 (bytes48 c.H_DEV) (bytes16 c.H_SEQ)

/-- R174: the header length check stands before every action (log 21). -/
def Codec.checked (c : Codec) (action : Codec) : Codec :=
  if c.NU < NU_MIN then c.raise .malformed else action

/-- R178, R216: one report from U index 13, bounded by the body's end, and the 8001 reply. -/
def Codec.locReport (c : Codec) : Codec :=
  c.checked <|
    match c.singleReport HDR_END (c.NU - 2) with
    | none => c.raise .malformed
    | some r => ({ c with RQ := [r] }).answer c.ack8001

/-- R220, R221: one iteration of the walker, none where it raises MALFORMED. -/
def Codec.walkItem (c : Codec) : Option Codec :=
  if c.B_POS + 2 > c.BLEN then none
  else
    let L := (be16 c.U (HDR_END + c.B_POS)).toNat
    let start := c.B_POS + 2
    if start + L > c.BLEN then none
    else match c.singleReport (HDR_END + start) (HDR_END + start + L) with
      | none => none
      | some r => some { c with RQ := c.RQ ++ [r], B_POS := start + L, B_ITER := c.B_ITER + 1 }

/-- R220: at most `n` more iterations; the flag says whether all of them completed. -/
def Codec.walk : Nat → Codec → Codec × Bool
  | 0, c => (c, true)
  | n + 1, c => c.walkItem.elim (c, false) (Codec.walk n)

/-- R220, R222: the walker's start; N = B_COUNT - 1 on naturals, with a floor of 0. -/
def Codec.walkStart (c : Codec) : Codec :=
  { c with B_COUNT := be16 c.U HDR_END, B_POS := 3, B_ITER := 0, RQ := [] }

/-- R179, R220, R224: the batch and its one 8001 reply; a failing batch leaves nothing (R183). -/
def Codec.batchLoc (c : Codec) : Codec :=
  c.checked <|
    if c.BLEN < 2 then c.raise .malformed
    else
      let c := c.walkStart
      match c.walk (c.B_COUNT.toNat - 1) with
      | (c', false) => c'.raise .malformed
      | (c', true) => c'.answer c'.ack8001

/-- LOC_REPORT, CommandId 0x0200 (R178). -/
def execLocReport (s : State) : Result := s.putParse s.cur.locReport

/-- BATCH_LOC, CommandId 0x0704 (R179). -/
def execBatchLoc (s : State) : Result := s.putParse s.cur.batchLoc

end Sys2Proof.Machine
end

