-- ==== Sys2Proof/Machine/Parser.lean ====
section
/-! DEFINITION. The message parser (43_parser.md): frame validation, the header, dispatch, and the meanings of
PARSE, REGISTER, HEARTBEAT, AUTH2 and UNRECOGNIZED. A CMDID16 instruction does the whole action (log 11). -/

namespace Sys2Proof.Machine

/-- R171, R172: `frame_valid`, read after the frame-sync machine has finished. -/
def Codec.frameValid (c : Codec) : Bool :=
  1 ≤ c.NIN && c.FIRST_OK && c.LAST_BYTE == FLAG

/-- R172, R174, R175: validation, the length check and the header registers, in the order of R273. -/
def Codec.loadHeader (c : Codec) : Except Status Codec :=
  if !c.frameValid then .error .invalidFrame
  else if c.NU < NU_MIN then .error .malformed
  else .ok { c with
    H_CMD := be16 c.U 1, H_DEV := be48 c.U 5, H_SEQ := be16 c.U 11, phase := .dispatch }

/-- R180: the body is not parsed; the 8100 reply. -/
def Codec.registerAck (c : Codec) : Codec := c.checked (c.answer c.ack8100)

/-- R181: the body is not read; the 8001 reply. -/
def Codec.generalAck (c : Codec) : Codec := c.checked (c.answer c.ack8001)

/-- R182: silently ignored. -/
def Codec.ignore (c : Codec) : Codec := c.checked (c.raise .unrecognizedCommand)

/-- R177: dispatch by exact comparison of all 16 bits of H_CMD. -/
def Codec.dispatch (c : Codec) : Codec :=
  if c.H_CMD = CMD_LOC_REPORT then c.locReport
  else if c.H_CMD = CMD_BATCH_LOC then c.batchLoc
  else if c.H_CMD = CMD_REGISTER then c.registerAck
  else if c.H_CMD = CMD_HEARTBEAT then c.generalAck
  else if c.H_CMD = CMD_AUTH2 then c.generalAck
  else c.ignore

/-- PARSE, R170: a whole transaction. -/
def execParse (s : State) : Result :=
  let c := (s.cur.begin .sync).syncAll true
  match c.loadHeader with
  | .error st => s.putParse (c.raise st)
  | .ok c' => s.putParse c'.dispatch

/-- REGISTER, CommandId 0x0100 (R180). -/
def execRegister (s : State) : Result := s.putParse s.cur.registerAck

/-- HEARTBEAT, CommandId 0x0002 (R181). -/
def execHeartbeat (s : State) : Result := s.putParse s.cur.generalAck

/-- AUTH2, CommandId 0x0102 (R181). -/
def execAuth2 (s : State) : Result := s.putParse s.cur.generalAck

/-- UNRECOGNIZED, any other CommandId, whatever it is (R182). -/
def execUnrecognized (_cmd : BitVec 16) (s : State) : Result := s.putParse s.cur.ignore

end Sys2Proof.Machine
end

