-- ==== Sys2Proof/Machine/Dispatch.lean ====
section
/-! DEFINITION. One arm per constructor of Instr, each the direct call of its meaning. -/

namespace Sys2Proof.Machine

def exec (i : Instr) (s : State) : Host.Outcome State Fault Refusal :=
  match i with
  -- OPSEL3
  | .unstuff => Sys2Proof.Machine.execUnstuff s
  | .stuff => Sys2Proof.Machine.execStuff s
  | .checksum => Sys2Proof.Machine.execChecksum s
  | .bcd2dec => Sys2Proof.Machine.execBcd2dec s
  | .bcd2ts => Sys2Proof.Machine.execBcd2ts s
  | .parse => Sys2Proof.Machine.execParse s
  | .build8001 => Sys2Proof.Machine.execBuild8001 s
  | .build8100 => Sys2Proof.Machine.execBuild8100 s
  -- CMDID16
  | .locReport => Sys2Proof.Machine.execLocReport s
  | .batchLoc => Sys2Proof.Machine.execBatchLoc s
  | .register => Sys2Proof.Machine.execRegister s
  | .heartbeat => Sys2Proof.Machine.execHeartbeat s
  | .auth2 => Sys2Proof.Machine.execAuth2 s
  | .unrecognized cmd => Sys2Proof.Machine.execUnrecognized cmd s
  -- ESC
  | .escFlag => Sys2Proof.Machine.execEscFlag s
  | .escEsc => Sys2Proof.Machine.execEscEsc s
  | .escOther partner => Sys2Proof.Machine.execEscOther partner s
  | .escTrailing => Sys2Proof.Machine.execEscTrailing s
  -- REPLY
  | .reply8001 => Sys2Proof.Machine.execReply8001 s
  | .reply8100 => Sys2Proof.Machine.execReply8100 s

end Sys2Proof.Machine
end

