-- ==== Sys2Proof/Machine/HostSide.lean ====
section
/-! DEFINITION. The host at the block's boundary (60_exceptions.md R279, 70_reset_and_hazards.md R304 to R307; log 17, log 18).
Issuing a transaction runs an instruction and is in Run.lean. -/

namespace Sys2Proof.Machine

/-- How many connections are open. -/
def State.openCount (s : State) : Nat := s.parked.length

/-- R278: a connection opens and its instance is created idle in the reset state of R300. -/
def State.openConn (k : Nat) (s : State) : Result :=
  match s.conn k with
  | some _ => .refused .connectionAlreadyOpen
  | none =>
    if admits s.cfg.N_INSTANCES (s.openCount + 1) then
      .next { s with port := some k, cur := Codec.reset, others := s.parked }
    else .refused .noFreeInstance

/-- R278, R279: the connection of the served instance closes; the instance is discarded and the host logs it.
Payloads no PARSE has taken and everything still owed go with it, reports unpublished: the model's choice (log 26). -/
def State.discard (k : Nat) (s : State) : Result :=
  .next { s with port := none, cur := Codec.reset, events := s.events ++ [.closed k] }

/-- R279, the inbound data event: a payload is delivered, already reassembled. It waits until a PARSE takes it; the
instance, busy or not, is not touched. What becomes of one longer than MAX_PAYLOAD_LEN, which no request can hold
(R27), the spec leaves open: the model's choice is to refuse its delivery, so that it never waits before a payload
that fits (log 27). -/
def State.arrive (payload : Bytes) (s : State) : Result :=
  if admits s.cfg.MAX_PAYLOAD_LEN payload.length then
    s.put (s.cur.withSession { s.cur.session with inbound := s.cur.session.inbound ++ [payload] })
  else .refused .payloadTooLong

/-- R279, R305: the operand of a PARSE is the oldest payload delivered, passed on as it came, so that no move
splits or joins frames. -/
def Session.take (payload : Bytes) (x : Session) : Option Session :=
  match x.inbound with
  | [] => none
  | p :: rest => if payload = p then some { x with inbound := rest } else none

/-- R23, R27, R304: the host writes OPSEL, IN and NIN of an idle instance; a request longer than
MAX_PAYLOAD_LEN cannot be expressed and is refused (D18), and so is a PARSE of anything but the oldest payload
delivered (log 18). A request not issued yet may be overwritten, and a payload it had taken is then lost unparsed:
the model's choice (log 29). -/
def State.load (opsel : BitVec 3) (operand : Bytes) (s : State) : Result :=
  if s.cur.BUSY then .refused .hostWhileBusy
  else if !admits s.cfg.MAX_PAYLOAD_LEN operand.length then .refused .payloadTooLong
  else if opsel = OP_PARSE then
    match s.cur.session.take operand with
    | none => .refused .payloadNotDelivered
    | some x => s.put { s.cur.withSession x with OPSEL := opsel, IN := operand }
  else s.put { s.cur with OPSEL := opsel, IN := operand }

/-- What the host has done outside once a duty is done. -/
def Duty.event (k : Nat) : Duty → Event
  | .publish r => .published k r
  | .writeReply frame => .wroteReply k frame
  | .writeDiag => .wroteDiag k Config.diagText
  | .drop => .dropped k

/-- R279: the host does the next thing it owes, or nothing where it owes nothing. One record or one reply a move
is the model's grain (log 25): the duties of several connections, and a close, may fall between any two of them.
No output of the instance is read, so a busy one is no matter (R280). -/
def State.collect (k : Nat) (s : State) : Result :=
  match s.cur.session.owed with
  | [] => .next s
  | d :: rest =>
    .next { s with
      cur := s.cur.withSession { s.cur.session with owed := rest }
      events := s.events ++ [d.event k] }

/-- R25, R280, R304: a transaction is issued only to an idle instance; R63 and R307: and only once the reply of a
PARSE that ended OK is written. No other status holds it back (R271). -/
def State.whenReady (issued : Result) (s : State) : Result :=
  if s.cur.BUSY then .refused .hostWhileBusy
  else if s.cur.session.owesReply then .refused .resultNotCollected
  else issued

/-- R301: the transaction-start reset of a transaction that will run byte-serially. The request held may have run
before (log 28). -/
def State.start (s : State) : Result := s.whenReady (s.put (s.cur.begin .begin))

/-- R85: one transaction, the triple (OPSEL, NIN, IN) for instance `k`, NIN being the length of IN. -/
structure Transaction where
  conn : Nat
  opsel : BitVec 3
  operand : Bytes
  deriving DecidableEq, Repr

/-- The moves of one transaction: the delivery of its payload if it is a PARSE, the request, its issue, and
everything owed for the result, never more than one duty for each byte and one more. -/
def Transaction.moves (t : Transaction) : List Move :=
  (if t.opsel = OP_PARSE then [.arrive t.conn t.operand] else []) ++
  [.load t.conn t.opsel t.operand, .issue t.conn] ++
  List.replicate (t.operand.length + 1) (.collect t.conn)

/-- R85: a program is a list of transactions issued in order. -/
def programMoves (p : List Transaction) : List Move := p.flatMap Transaction.moves

end Sys2Proof.Machine
end

