-- ==== Sys2Proof/Machine/Serial.lean ====
section
/-! DEFINITION. The byte-serial steps that are not an instruction (70_reset_and_hazards.md R310): beginning the
operation OPSEL names, one byte of a serial unit, and the ends. Steps that run an instruction are in Run.lean. -/

namespace Sys2Proof.Machine

/-- The operation OPSEL names begins (R80); an operand length it does not admit is raised before anything is
computed (R273). BUILD8001 and BUILD8100 test theirs in their one step. -/
def State.beginOp (s : State) : Result :=
  let c := s.cur
  if c.OPSEL = OP_UNSTUFF then s.put { c with phase := .unstuff }
  else if c.OPSEL = OP_STUFF then s.put { c with phase := .stuff 0 }
  else if c.OPSEL = OP_CHECKSUM then s.put { c with phase := .checksum 0 }
  else if c.OPSEL = OP_BCD2DEC then
    if c.NIN > BCD_MAX_BYTES then s.put (c.raise .badOperand)
    else s.put { c with phase := .bcd2dec 0 }
  else if c.OPSEL = OP_BCD2TS then
    if c.NIN ≠ 6 then s.putComposite (c.raise .badOperand)
    else s.put { c with phase := .bcd2ts 0 }
  else if c.OPSEL = OP_PARSE then s.put { c with phase := .sync }
  else if c.OPSEL = OP_BUILD8001 then s.put { c with phase := .reply ACK_GENERAL }
  else s.put { c with phase := .reply ACK_REGISTER }

/-- R127: byte `i` of a STUFF, or its end. -/
def State.stuffStep (i : Nat) (s : State) : Result :=
  if i < s.cur.NIN then s.put { s.cur.stuffByte (byteAt s.cur.IN i) with phase := .stuff (i + 1) }
  else s.put (s.cur.complete .ok)

/-- R152: byte `i` of a CHECKSUM, or its end. -/
def State.checksumStep (i : Nat) (s : State) : Result :=
  if i < s.cur.NIN then s.put { s.cur.checksumByte (byteAt s.cur.IN i) with phase := .checksum (i + 1) }
  else s.put s.cur.checksumDone

/-- R105: byte `i` of a BCD2DEC, or its end. -/
def State.bcd2decStep (i : Nat) (s : State) : Result :=
  if i < s.cur.NIN then s.put { s.cur.bcdByte (byteAt s.cur.IN i) with phase := .bcd2dec (i + 1) }
  else s.put s.cur.bcdDone

/-- R103: component `i` of a BCD2TS, or its end. -/
def State.bcd2tsStep (i : Nat) (s : State) : Result :=
  if i < 6 then
    let t := s.tsStep i
    .next { t with cur := { t.cur with phase := .bcd2ts (i + 1) } }
  else s.putComposite (s.cur.complete .ok)

/-- R172 to R175: the end of a PARSE's frame sync. -/
def State.headerStep (s : State) : Result :=
  match s.cur.loadHeader with
  | .error st => s.putParse (s.cur.raise st)
  | .ok c => s.put c

/-- R126, R171: the next byte with no escape pending, or the end of the input. -/
def State.syncStep (sync : Bool) (s : State) : Result :=
  if s.cur.FS_STATE = 3 then .fault .fsStateThree
  else if s.cur.IN_POS < s.cur.NIN then
    s.put (s.cur.plainByte sync (byteAt s.cur.IN s.cur.IN_POS))
  else if sync then s.headerStep
  else s.put (s.cur.complete .ok)

end Sys2Proof.Machine
end

