-- ==== Sys2Proof/Machine/Run.lean ====
section
/-! DEFINITION. Where instructions are fetched from, and what one move does. A transaction's instruction is read
from OPSEL; inside a byte-serial transaction PARSE's action is read from H_CMD, a reply from its latched command
id, and an escape unit from IN once its 0x7D is consumed (log 2, log 10 to log 12). -/

namespace Sys2Proof.Machine

/-- The first instruction of `bytes` in format `f`, executed. -/
def State.execDecoded (f : Format) (bytes : Bytes) (s : State) : Result :=
  match decode f bytes with
  | .ok (i, _) => exec i s
  | .error _ => .fault .undecodable

/-- The byte that carries the 3-bit OPSEL (R80). -/
def opselByte (op : BitVec 3) : Byte := op.setWidth 8

/-- The escape unit the partner byte at IN_POS completes, or a lone 0x7D at the end of IN (R77, R84). -/
def Codec.escapeBytes (c : Codec) : Bytes := ESC :: c.IN.drop c.IN_POS

/-- R126, R171: one step of the unstuffing or frame-sync machine. -/
def State.runSync (sync : Bool) (s : State) : Result :=
  if s.cur.FS_STATE = FS_ESC then s.execDecoded .esc s.cur.escapeBytes
  else s.syncStep sync

/-- One byte-serial step of the served instance. Between transactions an instance is idle and keeps its
registers (R283). -/
def State.runStep (s : State) : Result :=
  if !s.cur.BUSY then .next s
  else match s.cur.phase with
    | .idle => .next s
    | .begin => s.beginOp
    | .unstuff => s.runSync false
    | .stuff i => s.stuffStep i
    | .checksum i => s.checksumStep i
    | .bcd2dec i => s.bcd2decStep i
    | .bcd2ts i => s.bcd2tsStep i
    | .sync => s.runSync true
    | .dispatch => s.execDecoded .cmdid16 (bytes16 s.cur.H_CMD)
    | .reply rc => s.execDecoded .reply (bytes16 rc)

/-- R59: the loaded request runs as one step. Whether a request still held may be issued again with no new write,
R23 leaves open: the model's choice is that it may, a PARSE included (log 28). -/
def State.issueNow (s : State) : Result :=
  s.whenReady (s.execDecoded .opsel3 [opselByte s.cur.OPSEL])

/-- A move by or on the instance of connection `k`, once it is the one served. -/
def State.serve (k : Nat) (act : State → Result) (s : State) : Result :=
  match s.select k with
  | none => .refused .connectionNotOpen
  | some t => act t

/-- What one move does. -/
def State.move (m : Move) (s : State) : Result :=
  match m with
  | .openConn k => s.openConn k
  | .closeConn k => s.serve k (State.discard k)
  | .arrive k payload => s.serve k (State.arrive payload)
  | .load k opsel operand => s.serve k (State.load opsel operand)
  | .issue k => s.serve k State.issueNow
  | .start k => s.serve k State.start
  | .run k => s.serve k State.runStep
  | .collect k => s.serve k (State.collect k)

/-- The shortest message that carries a CommandId: R72's layout with every other field zero. -/
def messageOf (cmd : BitVec 16) : Bytes :=
  [FLAG] ++ bytes16 cmd ++ List.replicate 11 0x00 ++ [FLAG]

/-- The served instance, stood where its next instruction is `bytes` in format `f`, with the move that makes
it run. -/
def Codec.placed (f : Format) (bytes : Bytes) (k : Nat) (c : Codec) : Codec × Move :=
  let word := be16 bytes 0
  let idle := { c.session with owed := [] }
  match f with
  | .opsel3 =>
      ({ c with OPSEL := (byteAt bytes 0).extractLsb' 0 3, BUSY := false, phase := .idle, session := idle },
       .issue k)
  | .cmdid16 =>
      ({ c with OPSEL := OP_PARSE, BUSY := true, phase := .dispatch, session := idle, H_CMD := word, U := messageOf word },
       .run k)
  | .esc =>
      ({ c with OPSEL := OP_UNSTUFF, BUSY := true, phase := .unstuff, session := idle, FS_STATE := FS_ESC, IN := bytes, IN_POS := 1 },
       .run k)
  | .reply =>
      ({ c with
          OPSEL := if word = ACK_GENERAL then OP_BUILD8001 else 7
          BUSY := true, phase := .reply word, session := idle
          IN := List.replicate (if word = ACK_GENERAL then 10 else 8) 0x00 },
       .run k)

end Sys2Proof.Machine
end

