-- ==== Sys2Proof/Machine/Step.lean ====
section
/-! DEFINITION. One step of the machine: the next scheduled move, or, with none scheduled, a byte-serial step of
the served instance (log 4). -/

namespace Sys2Proof.Machine

def step (s : State) : Host.Outcome State Fault Refusal :=
  match s.script with
  | [] => s.runStep
  | m :: rest => State.move m { s with script := rest }

/-- The state whose very next step runs the instruction of a table word (log 4, log 13). A transaction's
operation select goes into OPSEL of the idle served instance, and its issue is the next move; a word of the
other three formats stands where the byte-serial transaction that fetches it reads it, and the next move runs
that instance. A word of no size the table has leaves the state as it is. -/
def State.withFetchWord (s : State) (nbits w : Nat) : State :=
  match tableBytes nbits w with
  | none => s
  | some bytes =>
    let k := s.port.getD 0
    let (c, m) := s.cur.placed (tableFormat nbits w) bytes k
    { s with port := some k, cur := c, others := removeConn k s.others, script := m :: s.script }

end Sys2Proof.Machine
end

