-- ==== Sys2Proof/Safety.lean ====
section
/-! DEFINITION. What counts as a safe state and as one whole frame, in the words claims use. -/

namespace Sys2Proof.Machine

/-! ## The state -/

/-- What the rules promise of every report record (R29, R102, R103, R213, R214): the decoded fields are those of
the raw bytes and in their ranges, and the voltage is the constant. -/
structure Report.Legal (r : Report) : Prop where
  voltage : r.VOLT = 12
  device : r.DEV_DEC.toNat = bcdToDecimal (bytes48 r.DEV_RAW)
  deviceRange : r.DEV_DEC.toNat < 2 ^ 41
  year : r.TS_Y.toNat = 2000 + bcdPair (byteAt (bytes48 r.TS_RAW) 0)
  month : r.TS_MO.toNat = bcdPair (byteAt (bytes48 r.TS_RAW) 1)
  day : r.TS_D.toNat = bcdPair (byteAt (bytes48 r.TS_RAW) 2)
  hour : r.TS_H.toNat = bcdPair (byteAt (bytes48 r.TS_RAW) 3)
  minute : r.TS_MI.toNat = bcdPair (byteAt (bytes48 r.TS_RAW) 4)
  second : r.TS_S.toNat = bcdPair (byteAt (bytes48 r.TS_RAW) 5)
  yearRange : 2000 ≤ r.TS_Y.toNat ∧ r.TS_Y.toNat ≤ 2165
  fieldRange : r.TS_MO.toNat ≤ 165 ∧ r.TS_D.toNat ≤ 165 ∧ r.TS_H.toNat ≤ 165 ∧
    r.TS_MI.toNat ≤ 165 ∧ r.TS_S.toNat ≤ 165

/-- What every run keeps true of an instance. -/
structure Codec.Inv (c : Codec) : Prop where
  /-- R24: STATUS 5 to 7 are never written. -/
  statusLegal : c.STATUS.toNat ≤ 4
  /-- R31: FS_STATE is never 3. -/
  fsLegal : c.FS_STATE ≠ 3
  /-- R171: FS_START is left with the first byte and never re-entered. -/
  fsStart : c.FS_STATE = FS_START ↔ c.IN_POS = 0
  /-- R31: an escape is pending only while bytes are scanned; every end clears it (R126). -/
  fsPending : c.FS_STATE = FS_ESC → c.phase = .unstuff ∨ c.phase = .sync
  /-- R25: BUSY is 1 exactly while a transaction runs. -/
  busy : c.BUSY = true ↔ c.phase ≠ .idle
  /-- R22: the cursor is bounded by NIN. -/
  cursor : c.BUSY = true → c.IN_POS ≤ c.NIN
  /-- R28, R177: a valid reply means a completed transaction with STATUS OK. -/
  replyValid : c.REPLY_VALID = true → c.BUSY = false ∧ c.STATUS = 0
  /-- R183: reports stand only beside a reply. -/
  reportsWithReply : c.RQ ≠ [] → c.REPLY_VALID = true
  /-- R30: NREP is at most 65534. -/
  reportCount : c.RQ.length ≤ 65534
  reportsLegal : ∀ r ∈ c.RQ, r.Legal
  /-- R174: dispatch is reached only by a message of at least 15 bytes. -/
  dispatchLong : c.phase = .dispatch → NU_MIN ≤ c.NU
  /-- R82: only the two reply command ids are ever latched, each by its operation. -/
  replyIds : ∀ rc, c.phase = .reply rc →
    (rc = ACK_GENERAL ∧ c.OPSEL = OP_BUILD8001) ∨ (rc = ACK_REGISTER ∧ c.OPSEL = 7)
  /-- R301: nothing of an earlier result survives into a running transaction. -/
  runningClean : c.BUSY = true → c.RQ = [] ∧ c.REPLY_VALID = false ∧ c.STATUS = 0 ∧ c.RESULT = 0
  /-- R63, R307: no transaction runs while a reply is owed. -/
  owedIdle : c.session.owesReply = true → c.BUSY = false
  /-- R63, R279: a reply is the last thing owed, after every report of its PARSE. -/
  replyLast : ∀ d ∈ c.session.owed.dropLast, d.isReply = false
  /-- What is published is what `reportsLegal` says. -/
  owedLegal : ∀ r, Duty.publish r ∈ c.session.owed → r.Legal

/-- The unstuffing or frame-sync machine after the bytes before IN_POS, or after its finish. -/
def Codec.scanned (sync : Bool) (ph : Phase) (c : Codec) : Prop :=
  c = (c.IN.take c.IN_POS).foldl (Codec.syncByte sync) (c.begin ph) ∨
  (c.IN_POS = c.NIN ∧ c = (c.begin ph).syncAll sync)

/-- Byte-serial progress: every register of a running instance is what its serial machine makes of the
transaction-start state (R301) and the bytes consumed so far (R105, R127, R128, R152, R171). BCD_ACC inside a
BCD2TS is unspecified (R35). -/
def Codec.OnTrack (c : Codec) : Prop :=
  match c.phase with
  | .idle => True
  | .begin => c = c.begin .begin
  | .unstuff => c.scanned false .unstuff
  | .sync => c.scanned true .sync
  | .stuff i => i ≤ c.NIN ∧
      c = (c.IN.take i).foldl Codec.stuffByte (c.begin (.stuff i))
  | .checksum i => i ≤ c.NIN ∧
      c = (c.IN.take i).foldl Codec.checksumByte (c.begin (.checksum i))
  | .bcd2dec i => i ≤ c.NIN ∧ c.NIN ≤ BCD_MAX_BYTES ∧
      c = (c.IN.take i).foldl Codec.bcdByte (c.begin (.bcd2dec i))
  | .bcd2ts i => i ≤ 6 ∧ c.NIN = 6 ∧
      c = { (List.range i).foldl (fun d j => d.tsByte j (byteAt c.IN j)) (c.begin (.bcd2ts i)) with
        BCD_ACC := c.BCD_ACC }
  | .dispatch => ((c.begin .sync).syncAll true).loadHeader = .ok c
  | .reply rc => c = c.begin (.reply rc)

/-- A property of every instance of the machine. -/
def State.EveryConn (P : Codec → Prop) (s : State) : Prop :=
  P s.cur ∧ ∀ p ∈ s.others, P p.2

/-- The instances are held in one canonical way (log 1): connections strictly rising, the served one not among
the others, and no register of a discarded instance kept. -/
structure State.Canonical (s : State) : Prop where
  rising : s.others.Pairwise fun p q => p.1 < q.1
  servedApart : ∀ k, s.port = some k → ∀ p ∈ s.others, p.1 ≠ k
  discarded : s.port = none → s.cur = Codec.reset

/-- What every step keeps. -/
structure State.Inv (s : State) : Prop where
  instances : s.EveryConn Codec.Inv
  canonical : s.Canonical

/-- The registers the host can read (R21, the rows marked H-R and H-W). -/
def Codec.hostView (c : Codec) :=
  (c.OPSEL, c.BUSY, c.STATUS, c.IN, c.OUT, c.REPLY_VALID, c.RESULT,
   c.TS_Y, c.TS_MO, c.TS_D, c.TS_H, c.TS_MI, c.TS_S, c.RQ)

/-- An instance with the two accumulators, which R35 leaves unspecified, taken out of sight. -/
def Codec.maskAcc (c : Codec) : Codec := { c with CS_ACC := 0, BCD_ACC := 0 }

/-! ## The host -/

/-- R305: exactly one complete frame, from its opening flag to its closing flag. -/
def wholeFrame (payload : Bytes) : Bool :=
  2 ≤ payload.length && payload.head? == some FLAG && payload.getLast? == some FLAG &&
  !(payload.drop 1).dropLast.contains FLAG

/-- A run of `n` steps that no fault or refusal stopped. -/
def State.Runs (n : Nat) (s t : State) : Prop := Host.Core.run Sys2Proof.core n s = .next t

end Sys2Proof.Machine
end

