-- ==== Sys2Proof/Reference.lean ====
section
/-! DEFINITION. The functions of the spec written over whole byte sequences, without registers, cursors or steps,
for claims to compare the machine with. The machine uses none of them. -/

namespace Sys2Proof.Reference

open Sys2Proof Sys2Proof.Machine

/-- R12, R53: a byte sequence as an unsigned big-endian number. -/
def bigEndian (B : Bytes) : Nat := B.foldl (fun n b => n * 256 + b.toNat) 0

/-- R122: whether the scan of R120 meets a unit `7D 01` or `7D 02`. -/
def hasCodeUnit : Bytes → Bool
  | [] => false
  | [_] => false
  | b :: x :: rest =>
      if b = 0x7D then
        if x = 0x01 ∨ x = 0x02 then true else hasCodeUnit rest
      else hasCodeUnit (x :: rest)

/-- R102: every nibble is a decimal digit. -/
def validBcd (B : Bytes) : Prop := ∀ b ∈ B, b.toNat / 16 ≤ 9 ∧ b.toNat % 16 ≤ 9

/-- R172: the payload is non-empty and its first and last bytes are FLAG. -/
def frameValid (P : Bytes) : Bool := P.head? == some 0x7E && P.getLast? == some 0x7E

/-- R74, R210 to R214: the record a report body gives, field by field, `dev` being the header's DeviceId. -/
def report (dev body : Bytes) : Report where
  DEV_RAW := BitVec.ofNat 48 (bigEndian dev)
  DEV_DEC := BitVec.ofNat 48 (bcdToDecimal dev)
  LAT := BitVec.ofNat 32 (bigEndian (slice body 8 12))
  LON := BitVec.ofNat 32 (bigEndian (slice body 12 16))
  ALT := BitVec.ofNat 16 (bigEndian (slice body 16 18))
  SPEED := BitVec.ofNat 16 (bigEndian (slice body 18 20))
  DIR := BitVec.ofNat 16 (bigEndian (slice body 20 22))
  TS_RAW := BitVec.ofNat 48 (bigEndian (slice body 22 28))
  TS_Y := BitVec.ofNat 12 (2000 + bcdToDecimal (slice body 22 23))
  TS_MO := BitVec.ofNat 8 (bcdToDecimal (slice body 23 24))
  TS_D := BitVec.ofNat 8 (bcdToDecimal (slice body 24 25))
  TS_H := BitVec.ofNat 8 (bcdToDecimal (slice body 25 26))
  TS_MI := BitVec.ofNat 8 (bcdToDecimal (slice body 26 27))
  TS_S := BitVec.ofNat 8 (bcdToDecimal (slice body 27 28))
  VOLT := 12

/-- R75, R220, R221: the first `n` items of a batch, each a length prefix and that many bytes, at least 28; none
where a prefix or an item runs past the end or an item is too short. -/
def items : Nat → Bytes → Option (List Bytes)
  | 0, _ => some []
  | _ + 1, [] => none
  | _ + 1, [_] => none
  | n + 1, hi :: lo :: rest =>
      let L := hi.toNat * 256 + lo.toNat
      if rest.length < L ∨ L < 28 then none
      else (items n (rest.drop L)).map (rest.take L :: ·)

/-- R220, R222: the items of a batch body; the count comes first, the marker after it is skipped, and one item
fewer than the count is read. -/
def batchItems (body : Bytes) : Option (List Bytes) :=
  if body.length < 2 then none
  else items (bigEndian (slice body 0 2) - 1) (body.drop 3)

/-- R172, R174, R178 to R182: the status, the reports and the reply PARSE gives for a payload, in the priority
of R273. -/
def parse (P : Bytes) : Status × List Report × Bytes :=
  let U := unstuff P
  let cmd := slice U 1 3
  let dev := slice U 5 11
  let seq := slice U 11 13
  let body := slice U 13 (U.length - 2)
  if frameValid P = false then (.invalidFrame, [], [])
  else if U.length < 15 then (.malformed, [], [])
  else if cmd = [0x02, 0x00] then
    if body.length < 28 then (.malformed, [], [])
    else (.ok, [report dev body], build8001 dev seq cmd)
  else if cmd = [0x07, 0x04] then
    match batchItems body with
    | none => (.malformed, [], [])
    | some bodies => (.ok, bodies.map (report dev), build8001 dev seq cmd)
  else if cmd = [0x01, 0x00] then (.ok, [], build8100 dev seq)
  else if cmd = [0x00, 0x02] ∨ cmd = [0x01, 0x02] then (.ok, [], build8001 dev seq cmd)
  else (.unrecognizedCommand, [], [])

/-- The instance a transaction leaves: every register at its transaction-start value (R301) but the request; the
host's side is no register. -/
def started (c : Codec) : Codec :=
  { Codec.reset with OPSEL := c.OPSEL, IN := c.IN, session := c.session }

/-- The instance a dispatch action leaves when it answers: RQ and the reply in OUT, completed with STATUS OK; the
host owes the reports and then the reply (R63, R279). -/
def answered (c : Codec) (reports : List Report) (frame : Bytes) : Codec :=
  { c with
    RQ := reports, OUT := frame, REPLY_VALID := true, STATUS := 0, BUSY := false, phase := .idle
    session := { c.session with owed := c.session.owed ++ reports.map Duty.publish ++ [.writeReply frame] } }

/-- The instance an action leaves when it raises a status (R271); the host owes what R279 asks for it. -/
def raised (c : Codec) (status : BitVec 3) (duties : List Duty) : Codec :=
  { c with
    RQ := [], OUT := [], REPLY_VALID := false, RESULT := 0
    TS_Y := 0, TS_MO := 0, TS_D := 0, TS_H := 0, TS_MI := 0, TS_S := 0
    STATUS := status, BUSY := false, phase := .idle
    session := { c.session with owed := c.session.owed ++ duties } }

end Sys2Proof.Reference
end

