-- ==== Sys2Proof/Certificates/Slice0/Obligations.lean ====
section
/-! DEFINITION. The statements for the provers, one `def Obligations.<Name> : Prop` each. -/

open Sys2Proof Sys2Proof.Machine

/-! ## Reset -/

/-- R300: every element of R21 at its power-on value. -/
def Obligations.ResetRegisterValues : Prop :=
  let c := State.reset.cur
  c.OPSEL = 0 ∧ c.BUSY = false ∧ c.STATUS = 0 ∧ c.IN = [] ∧ c.NIN = 0 ∧ c.OUT = [] ∧ c.NOUT = 0 ∧
  c.REPLY_VALID = false ∧ c.RESULT = 0 ∧
  c.TS_Y = 0 ∧ c.TS_MO = 0 ∧ c.TS_D = 0 ∧ c.TS_H = 0 ∧ c.TS_MI = 0 ∧ c.TS_S = 0 ∧
  c.RQ = [] ∧ c.NREP = 0 ∧ c.FS_STATE = 0 ∧ c.FIRST_OK = false ∧ c.LAST_BYTE = 0x00 ∧ c.IN_POS = 0 ∧
  c.U = [] ∧ c.NU = 0 ∧ c.H_CMD = 0 ∧ c.H_DEV = 0 ∧ c.H_SEQ = 0 ∧
  c.B_COUNT = 0 ∧ c.B_ITER = 0 ∧ c.B_POS = 0 ∧ c.CS_ACC = 0x00 ∧ c.BCD_ACC = 0

/-- The invariant of `StepKeepsInvariant` holds after reset. -/
def Obligations.ResetMeetsInvariant : Prop := State.reset.Inv

/-- R301: starting a byte-serial transaction sets BUSY and takes every register but OPSEL and IN to its R300
value; NIN is the length of IN. Only the model's own `phase` says where the transaction stands, and the host's side
of the connection is no register (log 25). -/
def Obligations.StartClearsAllButTheRequest : Prop :=
  ∀ (s : State) (k : Nat) (rest : List Move),
    s.script = .start k :: rest → s.port = some k → s.cur.BUSY = false → s.cur.session.owesReply = false →
    step s = .next { s with
      script := rest
      cur := { Codec.reset with
        OPSEL := s.cur.OPSEL, IN := s.cur.IN, BUSY := true, phase := .begin, session := s.cur.session } }

/-! ## Encoding -/

/-- Words written out from the tables of R77, R79, R80 and R82 decode to their rows. -/
def Obligations.SpecWordsDecode : Prop :=
  decode .opsel3 [0b00000101] = .ok (.parse, []) ∧
  decode .opsel3 [0b00000000] = .ok (.unstuff, []) ∧
  decode .cmdid16 [0x02, 0x00] = .ok (.locReport, []) ∧
  decode .cmdid16 [0x07, 0x04] = .ok (.batchLoc, []) ∧
  decode .cmdid16 [0x01, 0x02] = .ok (.auth2, []) ∧
  decode .cmdid16 [0x00, 0x03] = .ok (.unrecognized 0x0003, []) ∧
  decode .esc [0x7D, 0x02, 0x55] = .ok (.escFlag, [0x55]) ∧
  decode .esc [0x7D, 0x7D, 0x01] = .ok (.escOther 0x7D, [0x01]) ∧
  decode .esc [0x7D] = .ok (.escTrailing, []) ∧
  decode .reply [0x81, 0x00] = .ok (.reply8100, []) ∧
  decode .reply [0x02, 0x00] = .error .notAReplyId

/-- Decoding an encoded well-formed instruction gives it back with the bytes after it; a lone trailing escape has
none after it, since it is one only at the end (R84). -/
def Obligations.DecodeOfEncodeIsIdentity : Prop :=
  ∀ (i : Instr) (rest : Bytes), i.wellFormed = true → (i = .escTrailing → rest = []) →
    decode i.format (encode i ++ rest) = .ok (i, rest)

/-- Whatever decodes is the encoding of what it decodes to: no bit of a word is ignored. For an operation select,
which is 3 bits (R80), this holds because the decoder refuses a byte with a bit above them set: the model's choice
(log 13). -/
def Obligations.EncodeOfDecodeIsIdentity : Prop :=
  ∀ (f : Format) (bytes rest : Bytes) (i : Instr), decode f bytes = .ok (i, rest) →
    i.wellFormed = true ∧ i.format = f ∧ encode i ++ rest = bytes

/-! ## A step runs the decoded instruction -/

/-- A transaction issued to an idle instance that owes no reply: the step is exec of the instruction
OPSEL encodes, with the move taken off the script and the instance served. -/
def Obligations.IssueStepRunsDecodedInstruction : Prop :=
  ∀ (s t : State) (k : Nat) (rest : List Move) (i : Instr),
    s.script = .issue k :: rest → State.select k { s with script := rest } = some t →
    t.cur.BUSY = false → t.cur.session.owesReply = false →
    decode .opsel3 [opselByte t.cur.OPSEL] = .ok (i, []) →
    step s = exec i t

/-- Inside a byte-serial transaction, run by a scheduled move on its connection or, with nothing scheduled, as the
instance served: at dispatch the step is exec of the instruction H_CMD encodes, at the reply step of the one the
latched reply id encodes, and with an escape pending of the escape unit that the 0x7D and the bytes from IN_POS on
encode. -/
def Obligations.SerialStepRunsDecodedInstruction : Prop :=
  ∀ (s t : State) (i : Instr) (more : Bytes),
    (s.script = [] ∧ t = s) ∨
      (∃ k rest, s.script = .run k :: rest ∧ State.select k { s with script := rest } = some t) →
    t.cur.BUSY = true →
    (t.cur.phase = .dispatch → decode .cmdid16 (bytes16 t.cur.H_CMD) = .ok (i, more) → step s = exec i t) ∧
    (∀ rc, t.cur.phase = .reply rc → decode .reply (bytes16 rc) = .ok (i, more) → step s = exec i t) ∧
    (t.cur.phase = .unstuff ∨ t.cur.phase = .sync → t.cur.FS_STATE = FS_ESC →
      decode .esc (0x7D :: t.cur.IN.drop t.cur.IN_POS) = .ok (i, more) → step s = exec i t)

/-! ## Results of the eight operations -/

/-- R120, R121: UNSTUFF. Every register but OPSEL, IN, OUT and the machine's two is at its transaction-start
value, and nothing outside the instance changes. What FS_STATE and IN_POS hold is not said here (log 7). -/
def Obligations.UnstuffResult : Prop :=
  ∀ s : State, ∃ t, exec .unstuff s = .next t ∧
    t.cur.OUT = unstuff s.cur.IN ∧ t.cur.NOUT = (unstuff s.cur.IN).length ∧
    t.cur.STATUS = 0 ∧ t.cur.BUSY = false ∧
    t = { s with cur := { Reference.started s.cur with
      OUT := t.cur.OUT, FS_STATE := t.cur.FS_STATE, IN_POS := t.cur.IN_POS } }

/-- R123: STUFF, and what else the operation leaves. -/
def Obligations.StuffResult : Prop :=
  ∀ s : State, exec .stuff s =
    .next { s with cur := { Reference.started s.cur with OUT := stuff s.cur.IN } }

/-- R150: CHECKSUM, OPSEL 2; the result is zero-extended from 8 bits, and CS_ACC equals its low byte (R35). No
input fails. -/
def Obligations.ChecksumResult : Prop :=
  decode .opsel3 [0b00000010] = .ok (.checksum, []) ∧
  ∀ s : State, exec .checksum s =
    .next { s with cur := { Reference.started s.cur with
      RESULT := (s.cur.IN.foldl (fun acc b => acc ^^^ b) 0x00).setWidth 48
      CS_ACC := s.cur.IN.foldl (fun acc b => acc ^^^ b) 0x00 } }

/-- R101: BCD2DEC, both for the admitted lengths and for BAD_OPERAND. -/
def Obligations.Bcd2decResult : Prop :=
  ∀ s : State,
    (s.cur.NIN ≤ 6 → ∃ r : BitVec 48, r.toNat = bcdToDecimal s.cur.IN ∧
      exec .bcd2dec s = .next { s with cur := { Reference.started s.cur with RESULT := r, BCD_ACC := r } }) ∧
    (6 < s.cur.NIN →
      exec .bcd2dec s = .next { s with cur := { Reference.started s.cur with STATUS := 4 } })

/-- R103: BCD2TS, both for six bytes and for BAD_OPERAND. CS_ACC and BCD_ACC are unspecified afterwards (R35), and
only the model's draw counter besides the instance moves. -/
def Obligations.Bcd2tsResult : Prop :=
  (∀ (s : State) (y mo d h mi sec : Byte), s.cur.IN = [y, mo, d, h, mi, sec] →
    ∃ t, exec .bcd2ts s = .next t ∧
      t.cur.TS_Y.toNat = 2000 + bcdPair y ∧ t.cur.TS_MO.toNat = bcdPair mo ∧ t.cur.TS_D.toNat = bcdPair d ∧
      t.cur.TS_H.toNat = bcdPair h ∧ t.cur.TS_MI.toNat = bcdPair mi ∧ t.cur.TS_S.toNat = bcdPair sec ∧
      t.cur.STATUS = 0 ∧ t.cur.BUSY = false ∧
      t = { s with
        frees := t.frees
        cur := { Reference.started s.cur with
          TS_Y := t.cur.TS_Y, TS_MO := t.cur.TS_MO, TS_D := t.cur.TS_D
          TS_H := t.cur.TS_H, TS_MI := t.cur.TS_MI, TS_S := t.cur.TS_S
          CS_ACC := t.cur.CS_ACC, BCD_ACC := t.cur.BCD_ACC } }) ∧
  (∀ s : State, s.cur.NIN ≠ 6 →
    ∃ t, exec .bcd2ts s = .next t ∧
      t = { s with
        frees := t.frees
        cur := { Reference.started s.cur with
          STATUS := 4, CS_ACC := t.cur.CS_ACC, BCD_ACC := t.cur.BCD_ACC } })

/-- R242: BUILD8001, both for ten bytes and for BAD_OPERAND; REPLY_VALID stays 0. -/
def Obligations.Build8001Result : Prop :=
  (∀ (s : State) (dev seq cmd : Bytes), s.cur.IN = dev ++ seq ++ cmd →
    dev.length = 6 → seq.length = 2 → cmd.length = 2 →
    ∃ t, exec .build8001 s = .next t ∧
      t.cur.OUT = replyFrame 0x8001 dev seq (seq ++ cmd ++ [0x00]) ∧
      t = { s with
        frees := t.frees
        cur := { Reference.started s.cur with
          OUT := t.cur.OUT, CS_ACC := t.cur.CS_ACC, BCD_ACC := t.cur.BCD_ACC } }) ∧
  (∀ s : State, s.cur.NIN ≠ 10 →
    ∃ t, exec .build8001 s = .next t ∧
      t = { s with
        frees := t.frees
        cur := { Reference.started s.cur with
          STATUS := 4, CS_ACC := t.cur.CS_ACC, BCD_ACC := t.cur.BCD_ACC } })

/-- R243: BUILD8100, both for eight bytes and for BAD_OPERAND; REPLY_VALID stays 0. -/
def Obligations.Build8100Result : Prop :=
  (∀ (s : State) (dev seq : Bytes), s.cur.IN = dev ++ seq →
    dev.length = 6 → seq.length = 2 →
    ∃ t, exec .build8100 s = .next t ∧
      t.cur.OUT = replyFrame 0x8100 dev seq (seq ++ [0x00, 0x49, 0x00, 0x62, 0x46, 0x45]) ∧
      t = { s with
        frees := t.frees
        cur := { Reference.started s.cur with
          OUT := t.cur.OUT, CS_ACC := t.cur.CS_ACC, BCD_ACC := t.cur.BCD_ACC } }) ∧
  (∀ s : State, s.cur.NIN ≠ 8 →
    ∃ t, exec .build8100 s = .next t ∧
      t = { s with
        frees := t.frees
        cur := { Reference.started s.cur with
          STATUS := 4, CS_ACC := t.cur.CS_ACC, BCD_ACC := t.cur.BCD_ACC } })

/-- R170: what PARSE leaves in STATUS, RQ, OUT and REPLY_VALID is the reference function of the payload, for every
build whose RQ_DEPTH admits the reports; RESULT and TS_* keep their transaction-start values, and nothing outside
the instance but the draw counter changes. A build with a smaller RQ_DEPTH is refused (D32). -/
def Obligations.ParseMeetsReference : Prop :=
  ∀ s : State,
    (admits s.cfg.RQ_DEPTH (Reference.parse s.cur.IN).2.1.length = true →
      ∃ t, exec .parse s = .next t ∧
        t.cur.STATUS = (Reference.parse s.cur.IN).1.code ∧
        t.cur.RQ = (Reference.parse s.cur.IN).2.1 ∧
        t.cur.OUT = (Reference.parse s.cur.IN).2.2 ∧
        (t.cur.REPLY_VALID = true ↔ (Reference.parse s.cur.IN).1 = .ok) ∧
        t.cur.BUSY = false ∧ t.cur.OPSEL = s.cur.OPSEL ∧ t.cur.IN = s.cur.IN ∧ t.cur.RESULT = 0 ∧
        t.cur.TS_Y = 0 ∧ t.cur.TS_MO = 0 ∧ t.cur.TS_D = 0 ∧ t.cur.TS_H = 0 ∧ t.cur.TS_MI = 0 ∧ t.cur.TS_S = 0 ∧
        t = { s with cur := t.cur, frees := t.frees }) ∧
    (admits s.cfg.RQ_DEPTH (Reference.parse s.cur.IN).2.1.length = false →
      exec .parse s = .refused .reportQueueTooSmall)

/-- R171, R173, R175: the buffer, cursor, delimiter, header and batch registers PARSE leaves. U is unstuff of the whole payload, every byte is
consumed, FIRST_OK and LAST_BYTE are those of the payload, and H_CMD, H_DEV and H_SEQ are the header's bytes once
the frame is valid and long enough, and their start values otherwise (R33). The batch counters keep their start
values unless the message is a batch. After a status other than OK that these stay as reached is the model's reading
(log 20). FS_STATE is left out, its value after a pending escape at the end being log 8's. -/
def Obligations.ParseInternalRegisters : Prop :=
  ∀ s t : State, exec .parse s = .next t →
    t.cur.U = unstuff s.cur.IN ∧ t.cur.IN_POS = s.cur.NIN ∧
    (t.cur.FIRST_OK = true ↔ s.cur.IN.head? = some 0x7E) ∧
    t.cur.LAST_BYTE = s.cur.IN.getLast?.getD 0x00 ∧
    (if Reference.frameValid s.cur.IN ∧ 15 ≤ (unstuff s.cur.IN).length then
      t.cur.H_CMD.toNat = Reference.bigEndian (slice (unstuff s.cur.IN) 1 3) ∧
      t.cur.H_DEV.toNat = Reference.bigEndian (slice (unstuff s.cur.IN) 5 11) ∧
      t.cur.H_SEQ.toNat = Reference.bigEndian (slice (unstuff s.cur.IN) 11 13)
    else t.cur.H_CMD = 0 ∧ t.cur.H_DEV = 0 ∧ t.cur.H_SEQ = 0) ∧
    (¬ (Reference.frameValid s.cur.IN ∧ 15 ≤ (unstuff s.cur.IN).length ∧
        slice (unstuff s.cur.IN) 1 3 = [0x07, 0x04]) →
      t.cur.B_COUNT = 0 ∧ t.cur.B_ITER = 0 ∧ t.cur.B_POS = 0)

/-- R172: PARSE ends INVALID_FRAME exactly when the payload is empty or its first or last byte is not 0x7E, and
then with no report and no reply. -/
def Obligations.InvalidFrameExactlyWithoutFlags : Prop :=
  ∀ s : State,
    (¬ (s.cur.IN.head? = some 0x7E ∧ s.cur.IN.getLast? = some 0x7E) →
      ∃ t, exec .parse s = .next t ∧ t.cur.STATUS = 1 ∧
        t.cur.RQ = [] ∧ t.cur.OUT = [] ∧ t.cur.REPLY_VALID = false) ∧
    (s.cur.IN.head? = some 0x7E ∧ s.cur.IN.getLast? = some 0x7E →
      ∀ t, exec .parse s = .next t → t.cur.STATUS ≠ 1)

/-- R174: a valid frame of fewer than 15 unstuffed bytes is MALFORMED whatever its command bytes, with no report
and no reply. -/
def Obligations.ShortMessageMalformed : Prop :=
  ∀ s : State, s.cur.IN.head? = some 0x7E → s.cur.IN.getLast? = some 0x7E →
    (unstuff s.cur.IN).length < 15 →
    ∃ t, exec .parse s = .next t ∧ t.cur.STATUS = 3 ∧
      t.cur.RQ = [] ∧ t.cur.OUT = [] ∧ t.cur.REPLY_VALID = false

/-! ## Results of the six dispatch actions -/

/-- R178, R216: LOC_REPORT on a message with a body of at least 28 bytes gives exactly one report, from U index
13, and the 8001 reply that echoes U[1..3); every other register keeps its value, but for the two accumulators
R35 leaves unspecified. A build whose RQ_DEPTH is below one report is refused (D32). -/
def Obligations.LocReportResult : Prop :=
  ∀ s : State, 15 + 28 ≤ s.cur.NU →
    (admits s.cfg.RQ_DEPTH 1 = true →
      ∃ t r, exec .locReport s = .next t ∧
        r = Reference.report (bytes48 s.cur.H_DEV) (slice s.cur.U 13 (s.cur.NU - 2)) ∧
        t = { s with
          frees := t.frees
          cur := { Reference.answered s.cur [r]
              (build8001 (bytes48 s.cur.H_DEV) (bytes16 s.cur.H_SEQ) (slice s.cur.U 1 3)) with
            CS_ACC := t.cur.CS_ACC, BCD_ACC := t.cur.BCD_ACC } }) ∧
    (admits s.cfg.RQ_DEPTH 1 = false → exec .locReport s = .refused .reportQueueTooSmall)

/-- R211 to R214: the fields of the report of a LOC_REPORT, byte by byte: latitude and longitude unsigned and
never sign-extended, the other numbers big-endian, the date-time components unvalidated, the device from the
header, the voltage 12. -/
def Obligations.LocReportFields : Prop :=
  ∀ (s t : State) (r : Report), 15 + 28 ≤ s.cur.NU →
    exec .locReport s = .next t → t.cur.RQ = [r] →
    let b := fun i => (byteAt s.cur.U (13 + i)).toNat
    r.LAT.toNat = ((b 8 * 256 + b 9) * 256 + b 10) * 256 + b 11 ∧
    r.LON.toNat = ((b 12 * 256 + b 13) * 256 + b 14) * 256 + b 15 ∧
    r.ALT.toNat = b 16 * 256 + b 17 ∧ r.SPEED.toNat = b 18 * 256 + b 19 ∧ r.DIR.toNat = b 20 * 256 + b 21 ∧
    r.TS_RAW.toNat = Reference.bigEndian (slice s.cur.U 35 41) ∧
    r.TS_Y.toNat = 2000 + (b 22 / 16 * 10 + b 22 % 16) ∧
    r.TS_MO.toNat = b 23 / 16 * 10 + b 23 % 16 ∧ r.TS_D.toNat = b 24 / 16 * 10 + b 24 % 16 ∧
    r.TS_H.toNat = b 25 / 16 * 10 + b 25 % 16 ∧ r.TS_MI.toNat = b 26 / 16 * 10 + b 26 % 16 ∧
    r.TS_S.toNat = b 27 / 16 * 10 + b 27 % 16 ∧
    r.DEV_RAW = s.cur.H_DEV ∧ r.DEV_DEC.toNat = bcdToDecimal (bytes48 s.cur.H_DEV) ∧
    r.DEV_DEC.toNat < 2 ^ 41 ∧ r.VOLT = 12

/-- R179, R220, R221, R224: BATCH_LOC on a message whose batch is well formed gives its items' reports in order
and one 8001 reply, however many there are. A build whose RQ_DEPTH is below their number is refused (D32). -/
def Obligations.BatchLocResult : Prop :=
  ∀ (s : State) (bodies : List Bytes), 15 ≤ s.cur.NU →
    Reference.batchItems (slice s.cur.U 13 (s.cur.NU - 2)) = some bodies →
    (admits s.cfg.RQ_DEPTH bodies.length = true →
      ∃ t, exec .batchLoc s = .next t ∧
        t = { s with
          frees := t.frees
          cur := { Reference.answered s.cur (bodies.map (Reference.report (bytes48 s.cur.H_DEV)))
              (build8001 (bytes48 s.cur.H_DEV) (bytes16 s.cur.H_SEQ) (slice s.cur.U 1 3)) with
            B_COUNT := t.cur.B_COUNT, B_ITER := t.cur.B_ITER, B_POS := t.cur.B_POS
            CS_ACC := t.cur.CS_ACC, BCD_ACC := t.cur.BCD_ACC } } ∧
        t.cur.B_COUNT = be16 s.cur.U 13 ∧ t.cur.B_ITER.toNat = bodies.length ∧
        t.cur.B_POS = 3 + (bodies.map fun body => 2 + body.length).sum) ∧
    (admits s.cfg.RQ_DEPTH bodies.length = false → exec .batchLoc s = .refused .reportQueueTooSmall)

/-- R222: the number of reports is one fewer than the count, with a floor of 0, and never wraps. -/
def Obligations.BatchReportCount : Prop :=
  ∀ s t : State, exec .batchLoc s = .next t → t.cur.STATUS = 0 →
    t.cur.RQ.length = (be16 s.cur.U 13).toNat - 1 ∧ t.cur.RQ.length ≤ 65534 ∧
    t.cur.NREP.toNat = t.cur.RQ.length ∧ t.cur.B_ITER.toNat = t.cur.RQ.length

/-- R183, R216, R220: a report body shorter than 28 bytes, and a batch whose count, prefix or item runs past the
body or whose item is too short, is MALFORMED and leaves no report and no reply, even after items that parsed. -/
def Obligations.BadBodyMalformed : Prop :=
  (∀ s : State, 15 ≤ s.cur.NU → s.cur.NU < 15 + 28 →
    ∃ t, exec .locReport s = .next t ∧
      t = { s with
        frees := t.frees
        cur := { Reference.raised s.cur 3 [.drop] with CS_ACC := t.cur.CS_ACC, BCD_ACC := t.cur.BCD_ACC } }) ∧
  (∀ s : State, 15 ≤ s.cur.NU →
    Reference.batchItems (slice s.cur.U 13 (s.cur.NU - 2)) = none →
    ∃ t, exec .batchLoc s = .next t ∧
      t = { s with
        frees := t.frees
        cur := { Reference.raised s.cur 3 [.drop] with
          B_COUNT := t.cur.B_COUNT, B_ITER := t.cur.B_ITER, B_POS := t.cur.B_POS
          CS_ACC := t.cur.CS_ACC, BCD_ACC := t.cur.BCD_ACC } })

/-- R180, R181: REGISTER answers 8100, HEARTBEAT and AUTH2 answer 8001 with the CommandId echoed as received, none
reads the body, and RQ stays empty. -/
def Obligations.AcknowledgementResults : Prop :=
  ∀ s : State, 15 ≤ s.cur.NU → s.cur.RQ = [] →
    let ack := fun frame (t : State) => t = { s with
      frees := t.frees
      cur := { Reference.answered s.cur [] frame with CS_ACC := t.cur.CS_ACC, BCD_ACC := t.cur.BCD_ACC } }
    let dev := bytes48 s.cur.H_DEV
    let seq := bytes16 s.cur.H_SEQ
    (∃ t, exec .register s = .next t ∧
      ack (replyFrame 0x8100 dev seq (seq ++ [0x00, 0x49, 0x00, 0x62, 0x46, 0x45])) t) ∧
    (∃ t, exec .heartbeat s = .next t ∧
      ack (replyFrame 0x8001 dev seq (seq ++ slice s.cur.U 1 3 ++ [0x00])) t) ∧
    (∃ t, exec .auth2 s = .next t ∧
      ack (replyFrame 0x8001 dev seq (seq ++ slice s.cur.U 1 3 ++ [0x00])) t)

/-- R182: any other CommandId ends UNRECOGNIZED_COMMAND with no report and no reply, whatever it is. -/
def Obligations.UnrecognizedResult : Prop :=
  ∀ (s : State) (cmd : BitVec 16), 15 ≤ s.cur.NU →
    ∃ t, exec (.unrecognized cmd) s = .next t ∧
      t = { s with
        frees := t.frees
        cur := { Reference.raised s.cur 2 [] with CS_ACC := t.cur.CS_ACC, BCD_ACC := t.cur.BCD_ACC } }

/-- R174, R273: on a message shorter than 15 bytes every dispatch action is MALFORMED, an unrecognized command
included. -/
def Obligations.ActionsOnShortMessageMalformed : Prop :=
  ∀ (s : State) (i : Instr), i.format = .cmdid16 → s.cur.NU < 15 →
    ∃ t, exec i s = .next t ∧
      t = { s with
        frees := t.frees
        cur := { Reference.raised s.cur 3 [.drop] with CS_ACC := t.cur.CS_ACC, BCD_ACC := t.cur.BCD_ACC } }

/-- R177: dispatch compares all 16 bits of H_CMD with the five values and takes exactly one action. -/
def Obligations.DispatchIsExact : Prop :=
  ∀ s : State, s.script = [] → s.cur.BUSY = true → s.cur.phase = .dispatch →
    (s.cur.H_CMD = 0x0200 → step s = exec .locReport s) ∧
    (s.cur.H_CMD = 0x0704 → step s = exec .batchLoc s) ∧
    (s.cur.H_CMD = 0x0100 → step s = exec .register s) ∧
    (s.cur.H_CMD = 0x0002 → step s = exec .heartbeat s) ∧
    (s.cur.H_CMD = 0x0102 → step s = exec .auth2 s) ∧
    (s.cur.H_CMD ≠ 0x0200 → s.cur.H_CMD ≠ 0x0704 → s.cur.H_CMD ≠ 0x0100 → s.cur.H_CMD ≠ 0x0002 →
      s.cur.H_CMD ≠ 0x0102 → step s = exec (.unrecognized s.cur.H_CMD) s)

/-! ## The escape units and the frame-sync machine -/

/-- R77, R126: what each escape unit appends and how the machine's registers move, on PARSE's machine (to U) and on
UNSTUFF's (to OUT). That a unit executed in any other place acts as in UNSTUFF, and with no escape pending too, is
the model's choice (log 10). -/
def Obligations.EscapeUnitResults : Prop :=
  ∀ (s : State) (x : Byte),
    (s.cur.phase = .sync →
      exec .escFlag s = .next { s with cur := { s.cur with
        U := s.cur.U ++ [0x7E], FS_STATE := 1, LAST_BYTE := 0x02, IN_POS := s.cur.IN_POS + 1 } } ∧
      exec .escEsc s = .next { s with cur := { s.cur with
        U := s.cur.U ++ [0x7D], FS_STATE := 1, LAST_BYTE := 0x01, IN_POS := s.cur.IN_POS + 1 } } ∧
      exec (.escOther x) s = .next { s with cur := { s.cur with
        U := s.cur.U ++ [0x7D, x], FS_STATE := 1, LAST_BYTE := x, IN_POS := s.cur.IN_POS + 1 } } ∧
      exec .escTrailing s = .next { s with cur := { s.cur with
        U := s.cur.U ++ [0x7D], FS_STATE := 1 } }) ∧
    (s.cur.phase ≠ .sync →
      exec .escFlag s = .next { s with cur := { s.cur with
        OUT := s.cur.OUT ++ [0x7E], FS_STATE := 1, IN_POS := s.cur.IN_POS + 1 } } ∧
      exec .escEsc s = .next { s with cur := { s.cur with
        OUT := s.cur.OUT ++ [0x7D], FS_STATE := 1, IN_POS := s.cur.IN_POS + 1 } } ∧
      exec (.escOther x) s = .next { s with cur := { s.cur with
        OUT := s.cur.OUT ++ [0x7D, x], FS_STATE := 1, IN_POS := s.cur.IN_POS + 1 } } ∧
      exec .escTrailing s = .next { s with cur := { s.cur with
        OUT := s.cur.OUT ++ [0x7D], FS_STATE := 1 } })

/-- R171: one step of the frame-sync machine on a byte of the payload: the eight rows of its table, LAST_BYTE, and
IN_POS one further; every other register keeps its value. -/
def Obligations.FrameSyncTable : Prop :=
  ∀ (s : State) (b : Byte), s.script = [] → s.cur.BUSY = true → s.cur.phase = .sync →
    s.cur.IN[s.cur.IN_POS]? = some b → s.cur.FS_STATE ≠ 3 →
    let c := s.cur
    let after := fun (fs : BitVec 2) (appended : Bytes) (firstOk : Bool) =>
      (.next { s with cur := { c with
        FS_STATE := fs, U := c.U ++ appended, FIRST_OK := firstOk, LAST_BYTE := b, IN_POS := c.IN_POS + 1 } } : Result)
    (c.FS_STATE = 0 → b = 0x7D → step s = after 2 [] false) ∧
    (c.FS_STATE = 0 → b = 0x7E → step s = after 1 [0x7E] true) ∧
    (c.FS_STATE = 0 → b ≠ 0x7D → b ≠ 0x7E → step s = after 1 [b] false) ∧
    (c.FS_STATE = 1 → b = 0x7D → step s = after 2 [] c.FIRST_OK) ∧
    (c.FS_STATE = 1 → b ≠ 0x7D → step s = after 1 [b] c.FIRST_OK) ∧
    (c.FS_STATE = 2 → b = 0x02 → step s = after 1 [0x7E] c.FIRST_OK) ∧
    (c.FS_STATE = 2 → b = 0x01 → step s = after 1 [0x7D] c.FIRST_OK) ∧
    (c.FS_STATE = 2 → b ≠ 0x02 → b ≠ 0x01 → step s = after 1 [0x7D, b] c.FIRST_OK)

/-- R126: one step of the serial unstuffing machine of UNSTUFF on a byte of IN: an escape is held back, its
partner decides what is emitted to OUT, and IN_POS rises by one. Which of FS_START and FS_DATA stands for "no
escape pending" is left out (log 7). -/
def Obligations.SerialUnstuffTable : Prop :=
  ∀ (s : State) (b : Byte), s.script = [] → s.cur.BUSY = true → s.cur.phase = .unstuff →
    s.cur.IN[s.cur.IN_POS]? = some b → s.cur.FS_STATE ≠ 3 →
    ∃ t, step s = .next t ∧
      t = { s with cur := { s.cur with OUT := t.cur.OUT, FS_STATE := t.cur.FS_STATE, IN_POS := s.cur.IN_POS + 1 } } ∧
      (t.cur.FS_STATE = 2 ↔ s.cur.FS_STATE ≠ 2 ∧ b = 0x7D) ∧
      t.cur.OUT = s.cur.OUT ++
        (if s.cur.FS_STATE = 2 then
          (if b = 0x02 then [0x7E] else if b = 0x01 then [0x7D] else [0x7D, b])
        else if b = 0x7D then [] else [b])

/-! ## The two reply ids -/

/-- R76, R240, R242, R243: the reply-building steps of BUILD8001 and BUILD8100. -/
def Obligations.ReplyStepResults : Prop :=
  (∀ (s : State) (dev seq cmd : Bytes), s.cur.IN = dev ++ seq ++ cmd →
    dev.length = 6 → seq.length = 2 → cmd.length = 2 →
    ∃ t, exec .reply8001 s = .next t ∧
      t = { s with
        frees := t.frees
        cur := { s.cur with
          OUT := replyFrame 0x8001 dev seq (seq ++ cmd ++ [0x00])
          STATUS := 0, BUSY := false, phase := .idle, CS_ACC := t.cur.CS_ACC, BCD_ACC := t.cur.BCD_ACC } }) ∧
  (∀ (s : State) (dev seq : Bytes), s.cur.IN = dev ++ seq → dev.length = 6 → seq.length = 2 →
    ∃ t, exec .reply8100 s = .next t ∧
      t = { s with
        frees := t.frees
        cur := { s.cur with
          OUT := replyFrame 0x8100 dev seq (seq ++ [0x00, 0x49, 0x00, 0x62, 0x46, 0x45])
          STATUS := 0, BUSY := false, phase := .idle, CS_ACC := t.cur.CS_ACC, BCD_ACC := t.cur.BCD_ACC } }) ∧
  (∀ (s : State) (i : Instr), (i = .reply8001 ∧ s.cur.NIN ≠ 10) ∨ (i = .reply8100 ∧ s.cur.NIN ≠ 8) →
    ∃ t, exec i s = .next t ∧
      t = { s with
        frees := t.frees
        cur := { Reference.raised s.cur 4 [] with
          CS_ACC := t.cur.CS_ACC, BCD_ACC := t.cur.BCD_ACC } })

/-! ## Laws of the functions -/

/-- R124: unstuffing undoes stuffing, for every sequence; stuffing does not undo unstuffing. -/
def Obligations.UnstuffUndoesStuff : Prop :=
  (∀ X : Bytes, unstuff (stuff X) = X) ∧
  stuff (unstuff [0x7D, 0x03]) = [0x7D, 0x01, 0x03] ∧ stuff (unstuff [0x7E]) = [0x7D, 0x02]

/-- R122, the length law: unstuffing never lengthens, and keeps the length exactly when the scan meets no unit
`7D 01` or `7D 02`. -/
def Obligations.UnstuffLengthLaw : Prop :=
  ∀ Y : Bytes, (unstuff Y).length ≤ Y.length ∧
    ((unstuff Y).length = Y.length ↔ Reference.hasCodeUnit Y = false)

/-- R123, the length law: stuffing adds one byte for each 7E and 7D, at most doubles, and leaves no 7E. -/
def Obligations.StuffLengthLaw : Prop :=
  ∀ X : Bytes, (stuff X).length = X.length + X.count 0x7E + X.count 0x7D ∧
    (stuff X).length ≤ 2 * X.length ∧ (0x7E : Byte) ∉ stuff X

/-- R128: the serial machines compute the functions, from any codec with no escape pending and an empty output. -/
def Obligations.SerialMachinesComputeFunctions : Prop :=
  ∀ (c : Codec) (Y : Bytes), c.OUT = [] → c.FS_STATE ≠ FS_ESC →
    ((Y.foldl (Codec.syncByte false) c).finishSync false).OUT = unstuff Y ∧
    (Y.foldl Codec.stuffByte c).OUT = stuff Y

/-- R173: PARSE unstuffs the whole payload with its flags; for a valid frame of at least two bytes that is the
unstuffed interior between two flags. -/
def Obligations.UnstuffedFrameKeepsFlags : Prop :=
  (∀ s t : State, exec .parse s = .next t → t.cur.U = unstuff s.cur.IN) ∧
  (∀ P : Bytes, P.head? = some 0x7E → P.getLast? = some 0x7E → 2 ≤ P.length →
    unstuff P = [0x7E] ++ unstuff (slice P 1 (P.length - 1)) ++ [0x7E])

/-- R151: the checksum of a sequence with its checksum appended is 0, and the checksum of a concatenation is the
XOR of the parts' checksums. -/
def Obligations.ChecksumLaws : Prop :=
  (∀ A : Bytes, checksum (A ++ [checksum A]) = 0x00) ∧
  (∀ A B : Bytes, checksum (A ++ B) = checksum A ^^^ checksum B)

/-- R105, R152: the serial accumulators, from 0: after any bytes CS_ACC is their checksum, and after up to six
BCD_ACC is their decimal value. -/
def Obligations.SerialAccumulators : Prop :=
  (∀ (c : Codec) (B : Bytes), c.CS_ACC = 0 → (B.foldl Codec.checksumByte c).CS_ACC = checksum B) ∧
  (∀ (c : Codec) (B : Bytes), c.BCD_ACC = 0 → B.length ≤ 6 →
    (B.foldl Codec.bcdByte c).BCD_ACC.toNat = bcdToDecimal B)

/-- R102: the width law of bcdToDecimal. -/
def Obligations.BcdWidthLaw : Prop :=
  (∀ B : Bytes, Reference.validBcd B → bcdToDecimal B ≤ 10 ^ (2 * B.length) - 1) ∧
  (∀ B : Bytes, bcdToDecimal B ≤ 165 * (100 ^ B.length - 1) / 99) ∧
  (∀ B : Bytes, B.length ≤ 6 → bcdToDecimal B < 2 ^ 41)

/-- R246, first law: a reply frame has 7E at both ends and nowhere else. -/
def Obligations.ReplyFrameFlags : Prop :=
  ∀ (rc : BitVec 16) (dev seq body : Bytes),
    ∃ interior, replyFrame rc dev seq body = [0x7E] ++ interior ++ [0x7E] ∧ (0x7E : Byte) ∉ interior

/-- R240, R241, R245, R246: unstuffing the interior of a reply frame gives the message back: the reply id, the
body length before stuffing, the echoed DeviceId and SequenceId, the body and a checksum that makes the whole 0. -/
def Obligations.ReplyFrameRecoversFields : Prop :=
  ∀ (rc : BitVec 16) (dev seq body : Bytes), dev.length = 6 → seq.length = 2 → body.length < 65536 →
    let F := replyFrame rc dev seq body
    let M := unstuff (slice F 1 (F.length - 1))
    slice M 0 2 = bytes16 rc ∧ Reference.bigEndian (slice M 2 4) = body.length ∧
    slice M 4 10 = dev ∧ slice M 10 12 = seq ∧ slice M 12 (12 + body.length) = body ∧
    M.length = 13 + body.length ∧ checksum M = 0x00

/-- R246, last law: the block does not acknowledge its own replies: PARSE of a reply frame it builds ends
UNRECOGNIZED_COMMAND. -/
def Obligations.OwnRepliesUnrecognized : Prop :=
  ∀ (s : State) (dev seq cmd : Bytes), dev.length = 6 → seq.length = 2 → cmd.length = 2 →
    s.cur.IN = build8001 dev seq cmd ∨ s.cur.IN = build8100 dev seq →
    ∃ t, exec .parse s = .next t ∧ t.cur.STATUS = 2 ∧ t.cur.RQ = [] ∧ t.cur.REPLY_VALID = false

/-! ## Whole-machine rules -/

/-- R183, R271: a PARSE, or any other transaction, that ends with any status but OK leaves no report, no reply, no OUT, and RESULT and
TS_* at their transaction-start values; the instance is idle again, and no reply is owed that was not owed before, so
that it takes the next transaction normally. The list of what is owed is the model's own (log 25). -/
def Obligations.ErrorsPublishNothing : Prop :=
  ∀ (i : Instr) (s t : State), i.format ≠ .esc → exec i s = .next t → t.cur.STATUS ≠ 0 →
    t.cur.RQ = [] ∧ t.cur.NREP = 0 ∧ t.cur.REPLY_VALID = false ∧ t.cur.OUT = [] ∧ t.cur.NOUT = 0 ∧
    t.cur.RESULT = 0 ∧ t.cur.TS_Y = 0 ∧ t.cur.TS_MO = 0 ∧ t.cur.TS_D = 0 ∧ t.cur.TS_H = 0 ∧
    t.cur.TS_MI = 0 ∧ t.cur.TS_S = 0 ∧ t.cur.BUSY = false ∧
    t.cur.session.owesReply = s.cur.session.owesReply

/-- R28, R177: after PARSE, STATUS is OK exactly when REPLY_VALID is 1, and likewise after each dispatch action;
after any other operation REPLY_VALID is 0. -/
def Obligations.ReplyValidExactlyWhenParseOk : Prop :=
  ∀ (i : Instr) (s t : State), exec i s = .next t →
    (i = .parse ∨ i.format = .cmdid16 → (t.cur.REPLY_VALID = true ↔ t.cur.STATUS = 0)) ∧
    (i.format = .opsel3 → i ≠ .parse → t.cur.REPLY_VALID = false)

/-- R301: no value survives from one transaction into the next: what an operation leaves depends on OPSEL and IN
alone, and not on any register an earlier transaction left. What the host owes is no register: it grows by the same
duties, whatever was owed before. -/
def Obligations.NothingSurvivesATransaction : Prop :=
  ∀ (i : Instr) (s s' t t' : State), i.format = .opsel3 →
    s.cur.OPSEL = s'.cur.OPSEL → s.cur.IN = s'.cur.IN →
    exec i s = .next t → exec i s' = .next t' →
    t.cur.maskAcc.withSession Codec.reset.session = t'.cur.maskAcc.withSession Codec.reset.session ∧
    ∃ more : List Duty, t.cur.session = s.cur.session.owe more ∧ t'.cur.session = s'.cur.session.owe more

/-- R153, R185: the inbound checksum byte, the reserved field and the two flags of U change no output of any
dispatch action: two messages that differ only there give the same reports, reply and status. -/
def Obligations.IgnoredHeaderBytesChangeNothing : Prop :=
  ∀ (i : Instr) (s : State) (V : Bytes), i.format = .cmdid16 → V.length = s.cur.NU →
    (∀ j, j ≠ 0 → j ≠ 3 → j ≠ 4 → j + 2 ≠ s.cur.NU → j + 1 ≠ s.cur.NU → V[j]? = s.cur.U[j]?) →
    ∀ t, exec i s = .next t →
      exec i { s with cur := { s.cur with U := V } } = .next { t with cur := { t.cur with U := V } }

/-- R215: body offsets 0 to 7 of a report and those from 28 on change nothing of a LOC_REPORT. -/
def Obligations.UnreadReportBytesChangeNothing : Prop :=
  ∀ (s t : State) (V : Bytes), V.length = s.cur.NU →
    (∀ j, j < 13 ∨ (21 ≤ j ∧ j < 41) → V[j]? = s.cur.U[j]?) →
    exec .locReport s = .next t →
    exec .locReport { s with cur := { s.cur with U := V } } = .next { t with cur := { t.cur with U := V } }

/-- R223: the location-type marker and everything after the last item read change nothing of a BATCH_LOC. -/
def Obligations.UnreadBatchBytesChangeNothing : Prop :=
  ∀ (s t : State) (V : Bytes), V.length = s.cur.NU →
    exec .batchLoc s = .next t → t.cur.STATUS = 0 →
    (∀ j, j < 13 + t.cur.B_POS → j ≠ 15 → V[j]? = s.cur.U[j]?) →
    exec .batchLoc { s with cur := { s.cur with U := V } } = .next { t with cur := { t.cur with U := V } }

/-- Every step keeps the invariant: the status and frame-sync codes stay legal, BUSY is 1 exactly while a
transaction runs, the cursor stays inside IN, reports stand only beside a valid reply and hold what their raw
bytes say, a reply is owed only by an idle instance and after its reports, and the instances stay in canonical form.
FS_START exactly while IN_POS is 0 is R171's for PARSE; that an UNSTUFF keeps it too is log 7. -/
def Obligations.StepKeepsInvariant : Prop :=
  ∀ s t : State, s.Inv → step s = .next t → t.Inv

/-- Every step keeps every running instance on the track of its serial machine: what it holds is what that machine
makes of the transaction-start state and the bytes consumed so far. -/
def Obligations.StepKeepsInstancesOnTrack : Prop :=
  ∀ s t : State, s.EveryConn Codec.OnTrack → step s = .next t → t.EveryConn Codec.OnTrack

/-- Under the invariant a step faults never: every fault is for a state the spec says never occurs. -/
def Obligations.NoFaultUnderInvariant : Prop :=
  ∀ (s : State) (f : Fault), s.Inv → step s ≠ .fault f

/-- R281, R309: run byte-serially, a transaction terminates within max(NIN, 6) + 4 of the instance's own steps, and
leaves the machine exactly as the same transaction issued as one step does. -/
def Obligations.SerialRunEqualsIssuedTransaction : Prop :=
  ∀ (s t : State) (k : Nat), s.port = some k → s.cur.BUSY = false → s.cur.session.owesReply = false →
    step { s with script := [.issue k] } = .next t →
    ∃ n ≤ max s.cur.NIN 6 + 4, State.Runs (n + 1) { s with script := [.start k] } t

/-- R62, R64, R278: a move on connection `k` leaves every other connection's instance exactly as it was. -/
def Obligations.OtherInstancesUntouched : Prop :=
  ∀ (s t : State) (m : Move) (rest : List Move) (k j : Nat), s.Canonical →
    s.script = m :: rest →
    (m = .openConn k ∨ m = .closeConn k ∨ (∃ x, m = .arrive k x) ∨ (∃ op x, m = .load k op x) ∨ m = .issue k ∨ m = .start k ∨
      m = .run k ∨ m = .collect k) →
    step s = .next t → j ≠ k → t.conn j = s.conn j

/-- R64, R278: no observable of one instance depends on another. Two machines that agree on connection `k` and on
the build make the same move on it to the same instance, apart from the two accumulators R35 leaves unspecified,
whatever their other instances hold and whatever happened before. -/
def Obligations.InstancesDoNotInteract : Prop :=
  ∀ (s s' t : State) (m : Move) (rest rest' : List Move) (k : Nat),
    s.script = m :: rest → s'.script = m :: rest' →
    ((∃ x, m = .arrive k x) ∨ (∃ op x, m = .load k op x) ∨ m = .issue k ∨ m = .start k ∨ m = .run k ∨
      m = .collect k) →
    s.cfg = s'.cfg → s.conn k = s'.conn k →
    step s = .next t →
    ∃ t', step s' = .next t' ∧ (t'.conn k).map Codec.maskAcc = (t.conn k).map Codec.maskAcc

/-! ## The host boundary -/

/-- R280: on a busy instance the host has no move to write the request or issue a transaction, and what it still
does for an earlier result reads no output of the instance and changes no register: it is the same whatever those
hold. -/
def Obligations.HostHasNoMoveWhileBusy : Prop :=
  ∀ (s : State) (m : Move) (rest : List Move) (k : Nat), s.script = m :: rest → s.port = some k →
    s.cur.BUSY = true →
    ((∃ op x, m = .load k op x) ∨ m = .issue k ∨ m = .start k → step s = .refused .hostWhileBusy) ∧
    (m = .collect k → ∃ x evs, ∀ c : Codec, c.session = s.cur.session →
      step { s with cur := c } =
        .next { s with script := rest, cur := c.withSession x, events := s.events ++ evs })

/-- R63, R307: until the host has published the reports of a PARSE that ended OK and written its reply, it can issue
nothing more to that instance. Nothing else of what it owes holds a transaction back (R271): an idle instance that
owes no reply begins the next one. -/
def Obligations.NextTransactionWaitsForCollect : Prop :=
  ∀ (s : State) (m : Move) (rest : List Move) (k : Nat), s.script = m :: rest → s.port = some k →
    s.cur.BUSY = false → m = .issue k ∨ m = .start k →
    ((∃ frame, Duty.writeReply frame ∈ s.cur.session.owed) → step s = .refused .resultNotCollected) ∧
    ((∀ frame, Duty.writeReply frame ∉ s.cur.session.owed) →
      step s ≠ .refused .resultNotCollected ∧ step s ≠ .refused .hostWhileBusy)

/-- R279, R63: what the host owes for a PARSE, by its status: OK asks for every record of RQ in order and then for
OUT, INVALID_FRAME for the diagnostic text, MALFORMED for dropping the message, UNRECOGNIZED_COMMAND for nothing. It
is done in that order, one duty a move (log 25), and the instance keeps all its registers (R283). -/
def Obligations.CollectDoesTheHostsDuty : Prop :=
  (∀ s t : State, exec .parse s = .next t →
    ∃ more : List Duty, t.cur.session = s.cur.session.owe more ∧
      (t.cur.STATUS = 0 → more = t.cur.RQ.map Duty.publish ++ [.writeReply t.cur.OUT]) ∧
      (t.cur.STATUS = 1 → more = [.writeDiag]) ∧
      (t.cur.STATUS = 2 → more = []) ∧
      (t.cur.STATUS = 3 → more = [.drop])) ∧
  (∀ (s : State) (rest : List Move) (k : Nat), s.script = .collect k :: rest → s.port = some k →
    (s.cur.session.owed = [] → step s = .next { s with script := rest }) ∧
    (∀ d more, s.cur.session.owed = d :: more →
      let done := fun ev => (.next { s with
        script := rest, events := s.events ++ [ev]
        cur := { s.cur with session := { s.cur.session with owed := more } } } : Result)
      (∀ r, d = .publish r → step s = done (.published k r)) ∧
      (∀ frame, d = .writeReply frame → step s = done (.wroteReply k frame)) ∧
      (d = .writeDiag → step s = done (.wroteDiag k Config.diagText)) ∧
      (d = .drop → step s = done (.dropped k))))

/-- R23, R27: the host writes OPSEL and IN of an idle instance, and no register else, and a request longer than
MAX_PAYLOAD_LEN is refused. R279 and R305 give the host no move that splits or joins frames; that the operand of a
PARSE is therefore the oldest payload delivered for the connection, which it takes, and that every other operand is
refused, is the model's choice (log 18). A delivered payload that is one whole frame never ends INVALID_FRAME. -/
def Obligations.LoadWritesTheRequest : Prop :=
  ∀ (s : State) (rest : List Move) (k : Nat) (op : BitVec 3) (x : Bytes),
    s.script = .load k op x :: rest → s.port = some k → s.cur.BUSY = false →
    (admits s.cfg.MAX_PAYLOAD_LEN x.length = true →
      (op ≠ 5 → step s = .next { s with script := rest, cur := { s.cur with OPSEL := op, IN := x } }) ∧
      (∀ later, op = 5 → s.cur.session.inbound = x :: later →
        let t := { s with
          script := rest
          cur := { s.cur with
            OPSEL := op, IN := x, session := { s.cur.session with inbound := later } } }
        step s = .next t ∧
        (wholeFrame x = true → ∀ u, exec .parse t = .next u → u.cur.STATUS ≠ 1)) ∧
      (op = 5 → s.cur.session.inbound.head? ≠ some x → step s = .refused .payloadNotDelivered)) ∧
    (admits s.cfg.MAX_PAYLOAD_LEN x.length = false → step s = .refused .payloadTooLong)

/-- R278: an opened connection has an instance in the reset state, beside all the others as they were; a closed
connection has none. -/
def Obligations.ConnectionsOpenAndClose : Prop :=
  (∀ (s : State) (rest : List Move) (k : Nat), s.Canonical → s.script = .openConn k :: rest → s.conn k = none →
    s.cfg.N_INSTANCES = none →
    ∃ t, step s = .next t ∧ t.conn k = some State.reset.cur ∧ ∀ j, j ≠ k → t.conn j = s.conn j) ∧
  (∀ (s : State) (rest : List Move) (k : Nat), s.Canonical → s.script = .closeConn k :: rest → s.conn k ≠ none →
    ∃ t, step s = .next t ∧ t.conn k = none ∧ ∀ j, j ≠ k → t.conn j = s.conn j)
end

