-- ==== Sys2Proof/Laws/State.lean ====
section
/-! SUPPORT. One lemma per field per update of an instance, each true by unfolding, so that no later proof unfolds
a record update. -/

namespace Sys2Proof.Machine

/-! ### begin (R301) -/

@[simp] theorem Codec.begin_OPSEL (ph : Phase) (c : Codec) : (c.begin ph).OPSEL = c.OPSEL := rfl
@[simp] theorem Codec.begin_BUSY (ph : Phase) (c : Codec) : (c.begin ph).BUSY = true := rfl
@[simp] theorem Codec.begin_STATUS (ph : Phase) (c : Codec) : (c.begin ph).STATUS = 0 := rfl
@[simp] theorem Codec.begin_IN (ph : Phase) (c : Codec) : (c.begin ph).IN = c.IN := rfl
@[simp] theorem Codec.begin_OUT (ph : Phase) (c : Codec) : (c.begin ph).OUT = [] := rfl
@[simp] theorem Codec.begin_REPLY_VALID (ph : Phase) (c : Codec) : (c.begin ph).REPLY_VALID = false := rfl
@[simp] theorem Codec.begin_RESULT (ph : Phase) (c : Codec) : (c.begin ph).RESULT = 0 := rfl
@[simp] theorem Codec.begin_TS_Y (ph : Phase) (c : Codec) : (c.begin ph).TS_Y = 0 := rfl
@[simp] theorem Codec.begin_TS_MO (ph : Phase) (c : Codec) : (c.begin ph).TS_MO = 0 := rfl
@[simp] theorem Codec.begin_TS_D (ph : Phase) (c : Codec) : (c.begin ph).TS_D = 0 := rfl
@[simp] theorem Codec.begin_TS_H (ph : Phase) (c : Codec) : (c.begin ph).TS_H = 0 := rfl
@[simp] theorem Codec.begin_TS_MI (ph : Phase) (c : Codec) : (c.begin ph).TS_MI = 0 := rfl
@[simp] theorem Codec.begin_TS_S (ph : Phase) (c : Codec) : (c.begin ph).TS_S = 0 := rfl
@[simp] theorem Codec.begin_RQ (ph : Phase) (c : Codec) : (c.begin ph).RQ = [] := rfl
@[simp] theorem Codec.begin_FS_STATE (ph : Phase) (c : Codec) : (c.begin ph).FS_STATE = 0 := rfl
@[simp] theorem Codec.begin_FIRST_OK (ph : Phase) (c : Codec) : (c.begin ph).FIRST_OK = false := rfl
@[simp] theorem Codec.begin_LAST_BYTE (ph : Phase) (c : Codec) : (c.begin ph).LAST_BYTE = 0 := rfl
@[simp] theorem Codec.begin_IN_POS (ph : Phase) (c : Codec) : (c.begin ph).IN_POS = 0 := rfl
@[simp] theorem Codec.begin_U (ph : Phase) (c : Codec) : (c.begin ph).U = [] := rfl
@[simp] theorem Codec.begin_H_CMD (ph : Phase) (c : Codec) : (c.begin ph).H_CMD = 0 := rfl
@[simp] theorem Codec.begin_H_DEV (ph : Phase) (c : Codec) : (c.begin ph).H_DEV = 0 := rfl
@[simp] theorem Codec.begin_H_SEQ (ph : Phase) (c : Codec) : (c.begin ph).H_SEQ = 0 := rfl
@[simp] theorem Codec.begin_B_COUNT (ph : Phase) (c : Codec) : (c.begin ph).B_COUNT = 0 := rfl
@[simp] theorem Codec.begin_B_ITER (ph : Phase) (c : Codec) : (c.begin ph).B_ITER = 0 := rfl
@[simp] theorem Codec.begin_B_POS (ph : Phase) (c : Codec) : (c.begin ph).B_POS = 0 := rfl
@[simp] theorem Codec.begin_CS_ACC (ph : Phase) (c : Codec) : (c.begin ph).CS_ACC = 0 := rfl
@[simp] theorem Codec.begin_BCD_ACC (ph : Phase) (c : Codec) : (c.begin ph).BCD_ACC = 0 := rfl
@[simp] theorem Codec.begin_phase (ph : Phase) (c : Codec) : (c.begin ph).phase = ph := rfl
@[simp] theorem Codec.begin_session (ph : Phase) (c : Codec) : (c.begin ph).session = c.session := rfl

/-! ### complete (R25) -/

@[simp] theorem Codec.complete_OPSEL (st : Status) (c : Codec) : (c.complete st).OPSEL = c.OPSEL := rfl
@[simp] theorem Codec.complete_BUSY (st : Status) (c : Codec) : (c.complete st).BUSY = false := rfl
@[simp] theorem Codec.complete_STATUS (st : Status) (c : Codec) : (c.complete st).STATUS = st.code := rfl
@[simp] theorem Codec.complete_IN (st : Status) (c : Codec) : (c.complete st).IN = c.IN := rfl
@[simp] theorem Codec.complete_OUT (st : Status) (c : Codec) : (c.complete st).OUT = c.OUT := rfl
@[simp] theorem Codec.complete_REPLY_VALID (st : Status) (c : Codec) : (c.complete st).REPLY_VALID = c.REPLY_VALID := rfl
@[simp] theorem Codec.complete_RESULT (st : Status) (c : Codec) : (c.complete st).RESULT = c.RESULT := rfl
@[simp] theorem Codec.complete_TS_Y (st : Status) (c : Codec) : (c.complete st).TS_Y = c.TS_Y := rfl
@[simp] theorem Codec.complete_TS_MO (st : Status) (c : Codec) : (c.complete st).TS_MO = c.TS_MO := rfl
@[simp] theorem Codec.complete_TS_D (st : Status) (c : Codec) : (c.complete st).TS_D = c.TS_D := rfl
@[simp] theorem Codec.complete_TS_H (st : Status) (c : Codec) : (c.complete st).TS_H = c.TS_H := rfl
@[simp] theorem Codec.complete_TS_MI (st : Status) (c : Codec) : (c.complete st).TS_MI = c.TS_MI := rfl
@[simp] theorem Codec.complete_TS_S (st : Status) (c : Codec) : (c.complete st).TS_S = c.TS_S := rfl
@[simp] theorem Codec.complete_RQ (st : Status) (c : Codec) : (c.complete st).RQ = c.RQ := rfl
@[simp] theorem Codec.complete_FS_STATE (st : Status) (c : Codec) : (c.complete st).FS_STATE = c.FS_STATE := rfl
@[simp] theorem Codec.complete_FIRST_OK (st : Status) (c : Codec) : (c.complete st).FIRST_OK = c.FIRST_OK := rfl
@[simp] theorem Codec.complete_LAST_BYTE (st : Status) (c : Codec) : (c.complete st).LAST_BYTE = c.LAST_BYTE := rfl
@[simp] theorem Codec.complete_IN_POS (st : Status) (c : Codec) : (c.complete st).IN_POS = c.IN_POS := rfl
@[simp] theorem Codec.complete_U (st : Status) (c : Codec) : (c.complete st).U = c.U := rfl
@[simp] theorem Codec.complete_H_CMD (st : Status) (c : Codec) : (c.complete st).H_CMD = c.H_CMD := rfl
@[simp] theorem Codec.complete_H_DEV (st : Status) (c : Codec) : (c.complete st).H_DEV = c.H_DEV := rfl
@[simp] theorem Codec.complete_H_SEQ (st : Status) (c : Codec) : (c.complete st).H_SEQ = c.H_SEQ := rfl
@[simp] theorem Codec.complete_B_COUNT (st : Status) (c : Codec) : (c.complete st).B_COUNT = c.B_COUNT := rfl
@[simp] theorem Codec.complete_B_ITER (st : Status) (c : Codec) : (c.complete st).B_ITER = c.B_ITER := rfl
@[simp] theorem Codec.complete_B_POS (st : Status) (c : Codec) : (c.complete st).B_POS = c.B_POS := rfl
@[simp] theorem Codec.complete_CS_ACC (st : Status) (c : Codec) : (c.complete st).CS_ACC = c.CS_ACC := rfl
@[simp] theorem Codec.complete_BCD_ACC (st : Status) (c : Codec) : (c.complete st).BCD_ACC = c.BCD_ACC := rfl
@[simp] theorem Codec.complete_phase (st : Status) (c : Codec) : (c.complete st).phase = .idle := rfl
@[simp] theorem Codec.complete_session (st : Status) (c : Codec) : (c.complete st).session = c.session := rfl

/-! ### raise (R271) -/

@[simp] theorem Codec.raise_OPSEL (st : Status) (c : Codec) : (c.raise st).OPSEL = c.OPSEL := rfl
@[simp] theorem Codec.raise_BUSY (st : Status) (c : Codec) : (c.raise st).BUSY = false := rfl
@[simp] theorem Codec.raise_STATUS (st : Status) (c : Codec) : (c.raise st).STATUS = st.code := rfl
@[simp] theorem Codec.raise_IN (st : Status) (c : Codec) : (c.raise st).IN = c.IN := rfl
@[simp] theorem Codec.raise_OUT (st : Status) (c : Codec) : (c.raise st).OUT = [] := rfl
@[simp] theorem Codec.raise_REPLY_VALID (st : Status) (c : Codec) : (c.raise st).REPLY_VALID = false := rfl
@[simp] theorem Codec.raise_RESULT (st : Status) (c : Codec) : (c.raise st).RESULT = 0 := rfl
@[simp] theorem Codec.raise_TS_Y (st : Status) (c : Codec) : (c.raise st).TS_Y = 0 := rfl
@[simp] theorem Codec.raise_TS_MO (st : Status) (c : Codec) : (c.raise st).TS_MO = 0 := rfl
@[simp] theorem Codec.raise_TS_D (st : Status) (c : Codec) : (c.raise st).TS_D = 0 := rfl
@[simp] theorem Codec.raise_TS_H (st : Status) (c : Codec) : (c.raise st).TS_H = 0 := rfl
@[simp] theorem Codec.raise_TS_MI (st : Status) (c : Codec) : (c.raise st).TS_MI = 0 := rfl
@[simp] theorem Codec.raise_TS_S (st : Status) (c : Codec) : (c.raise st).TS_S = 0 := rfl
@[simp] theorem Codec.raise_RQ (st : Status) (c : Codec) : (c.raise st).RQ = [] := rfl
@[simp] theorem Codec.raise_FS_STATE (st : Status) (c : Codec) : (c.raise st).FS_STATE = c.FS_STATE := rfl
@[simp] theorem Codec.raise_FIRST_OK (st : Status) (c : Codec) : (c.raise st).FIRST_OK = c.FIRST_OK := rfl
@[simp] theorem Codec.raise_LAST_BYTE (st : Status) (c : Codec) : (c.raise st).LAST_BYTE = c.LAST_BYTE := rfl
@[simp] theorem Codec.raise_IN_POS (st : Status) (c : Codec) : (c.raise st).IN_POS = c.IN_POS := rfl
@[simp] theorem Codec.raise_U (st : Status) (c : Codec) : (c.raise st).U = c.U := rfl
@[simp] theorem Codec.raise_H_CMD (st : Status) (c : Codec) : (c.raise st).H_CMD = c.H_CMD := rfl
@[simp] theorem Codec.raise_H_DEV (st : Status) (c : Codec) : (c.raise st).H_DEV = c.H_DEV := rfl
@[simp] theorem Codec.raise_H_SEQ (st : Status) (c : Codec) : (c.raise st).H_SEQ = c.H_SEQ := rfl
@[simp] theorem Codec.raise_B_COUNT (st : Status) (c : Codec) : (c.raise st).B_COUNT = c.B_COUNT := rfl
@[simp] theorem Codec.raise_B_ITER (st : Status) (c : Codec) : (c.raise st).B_ITER = c.B_ITER := rfl
@[simp] theorem Codec.raise_B_POS (st : Status) (c : Codec) : (c.raise st).B_POS = c.B_POS := rfl
@[simp] theorem Codec.raise_CS_ACC (st : Status) (c : Codec) : (c.raise st).CS_ACC = c.CS_ACC := rfl
@[simp] theorem Codec.raise_BCD_ACC (st : Status) (c : Codec) : (c.raise st).BCD_ACC = c.BCD_ACC := rfl
@[simp] theorem Codec.raise_phase (st : Status) (c : Codec) : (c.raise st).phase = .idle := rfl
@[simp] theorem Codec.raise_session (st : Status) (c : Codec) : (c.raise st).session = c.session := rfl

/-! ### answer (R184) -/

@[simp] theorem Codec.answer_OPSEL (frame : Bytes) (c : Codec) : (c.answer frame).OPSEL = c.OPSEL := rfl
@[simp] theorem Codec.answer_BUSY (frame : Bytes) (c : Codec) : (c.answer frame).BUSY = false := rfl
@[simp] theorem Codec.answer_STATUS (frame : Bytes) (c : Codec) : (c.answer frame).STATUS = 0 := rfl
@[simp] theorem Codec.answer_IN (frame : Bytes) (c : Codec) : (c.answer frame).IN = c.IN := rfl
@[simp] theorem Codec.answer_OUT (frame : Bytes) (c : Codec) : (c.answer frame).OUT = frame := rfl
@[simp] theorem Codec.answer_REPLY_VALID (frame : Bytes) (c : Codec) : (c.answer frame).REPLY_VALID = true := rfl
@[simp] theorem Codec.answer_RESULT (frame : Bytes) (c : Codec) : (c.answer frame).RESULT = c.RESULT := rfl
@[simp] theorem Codec.answer_TS_Y (frame : Bytes) (c : Codec) : (c.answer frame).TS_Y = c.TS_Y := rfl
@[simp] theorem Codec.answer_TS_MO (frame : Bytes) (c : Codec) : (c.answer frame).TS_MO = c.TS_MO := rfl
@[simp] theorem Codec.answer_TS_D (frame : Bytes) (c : Codec) : (c.answer frame).TS_D = c.TS_D := rfl
@[simp] theorem Codec.answer_TS_H (frame : Bytes) (c : Codec) : (c.answer frame).TS_H = c.TS_H := rfl
@[simp] theorem Codec.answer_TS_MI (frame : Bytes) (c : Codec) : (c.answer frame).TS_MI = c.TS_MI := rfl
@[simp] theorem Codec.answer_TS_S (frame : Bytes) (c : Codec) : (c.answer frame).TS_S = c.TS_S := rfl
@[simp] theorem Codec.answer_RQ (frame : Bytes) (c : Codec) : (c.answer frame).RQ = c.RQ := rfl
@[simp] theorem Codec.answer_FS_STATE (frame : Bytes) (c : Codec) : (c.answer frame).FS_STATE = c.FS_STATE := rfl
@[simp] theorem Codec.answer_FIRST_OK (frame : Bytes) (c : Codec) : (c.answer frame).FIRST_OK = c.FIRST_OK := rfl
@[simp] theorem Codec.answer_LAST_BYTE (frame : Bytes) (c : Codec) : (c.answer frame).LAST_BYTE = c.LAST_BYTE := rfl
@[simp] theorem Codec.answer_IN_POS (frame : Bytes) (c : Codec) : (c.answer frame).IN_POS = c.IN_POS := rfl
@[simp] theorem Codec.answer_U (frame : Bytes) (c : Codec) : (c.answer frame).U = c.U := rfl
@[simp] theorem Codec.answer_H_CMD (frame : Bytes) (c : Codec) : (c.answer frame).H_CMD = c.H_CMD := rfl
@[simp] theorem Codec.answer_H_DEV (frame : Bytes) (c : Codec) : (c.answer frame).H_DEV = c.H_DEV := rfl
@[simp] theorem Codec.answer_H_SEQ (frame : Bytes) (c : Codec) : (c.answer frame).H_SEQ = c.H_SEQ := rfl
@[simp] theorem Codec.answer_B_COUNT (frame : Bytes) (c : Codec) : (c.answer frame).B_COUNT = c.B_COUNT := rfl
@[simp] theorem Codec.answer_B_ITER (frame : Bytes) (c : Codec) : (c.answer frame).B_ITER = c.B_ITER := rfl
@[simp] theorem Codec.answer_B_POS (frame : Bytes) (c : Codec) : (c.answer frame).B_POS = c.B_POS := rfl
@[simp] theorem Codec.answer_CS_ACC (frame : Bytes) (c : Codec) : (c.answer frame).CS_ACC = c.CS_ACC := rfl
@[simp] theorem Codec.answer_BCD_ACC (frame : Bytes) (c : Codec) : (c.answer frame).BCD_ACC = c.BCD_ACC := rfl
@[simp] theorem Codec.answer_phase (frame : Bytes) (c : Codec) : (c.answer frame).phase = .idle := rfl
@[simp] theorem Codec.answer_session (frame : Bytes) (c : Codec) : (c.answer frame).session = c.session := rfl

/-! ### emit (R126) -/

@[simp] theorem Codec.emit_OPSEL (sync : Bool) (bytes : Bytes) (c : Codec) : (c.emit sync bytes).OPSEL = c.OPSEL := rfl
@[simp] theorem Codec.emit_BUSY (sync : Bool) (bytes : Bytes) (c : Codec) : (c.emit sync bytes).BUSY = c.BUSY := rfl
@[simp] theorem Codec.emit_STATUS (sync : Bool) (bytes : Bytes) (c : Codec) : (c.emit sync bytes).STATUS = c.STATUS := rfl
@[simp] theorem Codec.emit_IN (sync : Bool) (bytes : Bytes) (c : Codec) : (c.emit sync bytes).IN = c.IN := rfl
@[simp] theorem Codec.emit_OUT (sync : Bool) (bytes : Bytes) (c : Codec) : (c.emit sync bytes).OUT = if sync then c.OUT else c.OUT ++ bytes := rfl
@[simp] theorem Codec.emit_REPLY_VALID (sync : Bool) (bytes : Bytes) (c : Codec) : (c.emit sync bytes).REPLY_VALID = c.REPLY_VALID := rfl
@[simp] theorem Codec.emit_RESULT (sync : Bool) (bytes : Bytes) (c : Codec) : (c.emit sync bytes).RESULT = c.RESULT := rfl
@[simp] theorem Codec.emit_TS_Y (sync : Bool) (bytes : Bytes) (c : Codec) : (c.emit sync bytes).TS_Y = c.TS_Y := rfl
@[simp] theorem Codec.emit_TS_MO (sync : Bool) (bytes : Bytes) (c : Codec) : (c.emit sync bytes).TS_MO = c.TS_MO := rfl
@[simp] theorem Codec.emit_TS_D (sync : Bool) (bytes : Bytes) (c : Codec) : (c.emit sync bytes).TS_D = c.TS_D := rfl
@[simp] theorem Codec.emit_TS_H (sync : Bool) (bytes : Bytes) (c : Codec) : (c.emit sync bytes).TS_H = c.TS_H := rfl
@[simp] theorem Codec.emit_TS_MI (sync : Bool) (bytes : Bytes) (c : Codec) : (c.emit sync bytes).TS_MI = c.TS_MI := rfl
@[simp] theorem Codec.emit_TS_S (sync : Bool) (bytes : Bytes) (c : Codec) : (c.emit sync bytes).TS_S = c.TS_S := rfl
@[simp] theorem Codec.emit_RQ (sync : Bool) (bytes : Bytes) (c : Codec) : (c.emit sync bytes).RQ = c.RQ := rfl
@[simp] theorem Codec.emit_FS_STATE (sync : Bool) (bytes : Bytes) (c : Codec) : (c.emit sync bytes).FS_STATE = c.FS_STATE := rfl
@[simp] theorem Codec.emit_FIRST_OK (sync : Bool) (bytes : Bytes) (c : Codec) : (c.emit sync bytes).FIRST_OK = c.FIRST_OK := rfl
@[simp] theorem Codec.emit_LAST_BYTE (sync : Bool) (bytes : Bytes) (c : Codec) : (c.emit sync bytes).LAST_BYTE = c.LAST_BYTE := rfl
@[simp] theorem Codec.emit_IN_POS (sync : Bool) (bytes : Bytes) (c : Codec) : (c.emit sync bytes).IN_POS = c.IN_POS := rfl
@[simp] theorem Codec.emit_U (sync : Bool) (bytes : Bytes) (c : Codec) : (c.emit sync bytes).U = if sync then c.U ++ bytes else c.U := rfl
@[simp] theorem Codec.emit_H_CMD (sync : Bool) (bytes : Bytes) (c : Codec) : (c.emit sync bytes).H_CMD = c.H_CMD := rfl
@[simp] theorem Codec.emit_H_DEV (sync : Bool) (bytes : Bytes) (c : Codec) : (c.emit sync bytes).H_DEV = c.H_DEV := rfl
@[simp] theorem Codec.emit_H_SEQ (sync : Bool) (bytes : Bytes) (c : Codec) : (c.emit sync bytes).H_SEQ = c.H_SEQ := rfl
@[simp] theorem Codec.emit_B_COUNT (sync : Bool) (bytes : Bytes) (c : Codec) : (c.emit sync bytes).B_COUNT = c.B_COUNT := rfl
@[simp] theorem Codec.emit_B_ITER (sync : Bool) (bytes : Bytes) (c : Codec) : (c.emit sync bytes).B_ITER = c.B_ITER := rfl
@[simp] theorem Codec.emit_B_POS (sync : Bool) (bytes : Bytes) (c : Codec) : (c.emit sync bytes).B_POS = c.B_POS := rfl
@[simp] theorem Codec.emit_CS_ACC (sync : Bool) (bytes : Bytes) (c : Codec) : (c.emit sync bytes).CS_ACC = c.CS_ACC := rfl
@[simp] theorem Codec.emit_BCD_ACC (sync : Bool) (bytes : Bytes) (c : Codec) : (c.emit sync bytes).BCD_ACC = c.BCD_ACC := rfl
@[simp] theorem Codec.emit_phase (sync : Bool) (bytes : Bytes) (c : Codec) : (c.emit sync bytes).phase = c.phase := rfl
@[simp] theorem Codec.emit_session (sync : Bool) (bytes : Bytes) (c : Codec) : (c.emit sync bytes).session = c.session := rfl

/-! ### consume (R171) -/

@[simp] theorem Codec.consume_OPSEL (sync : Bool) (b : Byte) (c : Codec) : (c.consume sync b).OPSEL = c.OPSEL := rfl
@[simp] theorem Codec.consume_BUSY (sync : Bool) (b : Byte) (c : Codec) : (c.consume sync b).BUSY = c.BUSY := rfl
@[simp] theorem Codec.consume_STATUS (sync : Bool) (b : Byte) (c : Codec) : (c.consume sync b).STATUS = c.STATUS := rfl
@[simp] theorem Codec.consume_IN (sync : Bool) (b : Byte) (c : Codec) : (c.consume sync b).IN = c.IN := rfl
@[simp] theorem Codec.consume_OUT (sync : Bool) (b : Byte) (c : Codec) : (c.consume sync b).OUT = c.OUT := rfl
@[simp] theorem Codec.consume_REPLY_VALID (sync : Bool) (b : Byte) (c : Codec) : (c.consume sync b).REPLY_VALID = c.REPLY_VALID := rfl
@[simp] theorem Codec.consume_RESULT (sync : Bool) (b : Byte) (c : Codec) : (c.consume sync b).RESULT = c.RESULT := rfl
@[simp] theorem Codec.consume_TS_Y (sync : Bool) (b : Byte) (c : Codec) : (c.consume sync b).TS_Y = c.TS_Y := rfl
@[simp] theorem Codec.consume_TS_MO (sync : Bool) (b : Byte) (c : Codec) : (c.consume sync b).TS_MO = c.TS_MO := rfl
@[simp] theorem Codec.consume_TS_D (sync : Bool) (b : Byte) (c : Codec) : (c.consume sync b).TS_D = c.TS_D := rfl
@[simp] theorem Codec.consume_TS_H (sync : Bool) (b : Byte) (c : Codec) : (c.consume sync b).TS_H = c.TS_H := rfl
@[simp] theorem Codec.consume_TS_MI (sync : Bool) (b : Byte) (c : Codec) : (c.consume sync b).TS_MI = c.TS_MI := rfl
@[simp] theorem Codec.consume_TS_S (sync : Bool) (b : Byte) (c : Codec) : (c.consume sync b).TS_S = c.TS_S := rfl
@[simp] theorem Codec.consume_RQ (sync : Bool) (b : Byte) (c : Codec) : (c.consume sync b).RQ = c.RQ := rfl
@[simp] theorem Codec.consume_FS_STATE (sync : Bool) (b : Byte) (c : Codec) : (c.consume sync b).FS_STATE = c.FS_STATE := rfl
@[simp] theorem Codec.consume_FIRST_OK (sync : Bool) (b : Byte) (c : Codec) : (c.consume sync b).FIRST_OK = c.FIRST_OK := rfl
@[simp] theorem Codec.consume_LAST_BYTE (sync : Bool) (b : Byte) (c : Codec) : (c.consume sync b).LAST_BYTE = if sync then b else c.LAST_BYTE := rfl
@[simp] theorem Codec.consume_IN_POS (sync : Bool) (b : Byte) (c : Codec) : (c.consume sync b).IN_POS = c.IN_POS + 1 := rfl
@[simp] theorem Codec.consume_U (sync : Bool) (b : Byte) (c : Codec) : (c.consume sync b).U = c.U := rfl
@[simp] theorem Codec.consume_H_CMD (sync : Bool) (b : Byte) (c : Codec) : (c.consume sync b).H_CMD = c.H_CMD := rfl
@[simp] theorem Codec.consume_H_DEV (sync : Bool) (b : Byte) (c : Codec) : (c.consume sync b).H_DEV = c.H_DEV := rfl
@[simp] theorem Codec.consume_H_SEQ (sync : Bool) (b : Byte) (c : Codec) : (c.consume sync b).H_SEQ = c.H_SEQ := rfl
@[simp] theorem Codec.consume_B_COUNT (sync : Bool) (b : Byte) (c : Codec) : (c.consume sync b).B_COUNT = c.B_COUNT := rfl
@[simp] theorem Codec.consume_B_ITER (sync : Bool) (b : Byte) (c : Codec) : (c.consume sync b).B_ITER = c.B_ITER := rfl
@[simp] theorem Codec.consume_B_POS (sync : Bool) (b : Byte) (c : Codec) : (c.consume sync b).B_POS = c.B_POS := rfl
@[simp] theorem Codec.consume_CS_ACC (sync : Bool) (b : Byte) (c : Codec) : (c.consume sync b).CS_ACC = c.CS_ACC := rfl
@[simp] theorem Codec.consume_BCD_ACC (sync : Bool) (b : Byte) (c : Codec) : (c.consume sync b).BCD_ACC = c.BCD_ACC := rfl
@[simp] theorem Codec.consume_phase (sync : Bool) (b : Byte) (c : Codec) : (c.consume sync b).phase = c.phase := rfl
@[simp] theorem Codec.consume_session (sync : Bool) (b : Byte) (c : Codec) : (c.consume sync b).session = c.session := rfl

/-! ### stuffByte (R127) -/

@[simp] theorem Codec.stuffByte_OPSEL (c : Codec) (b : Byte) : (c.stuffByte b).OPSEL = c.OPSEL := rfl
@[simp] theorem Codec.stuffByte_BUSY (c : Codec) (b : Byte) : (c.stuffByte b).BUSY = c.BUSY := rfl
@[simp] theorem Codec.stuffByte_STATUS (c : Codec) (b : Byte) : (c.stuffByte b).STATUS = c.STATUS := rfl
@[simp] theorem Codec.stuffByte_IN (c : Codec) (b : Byte) : (c.stuffByte b).IN = c.IN := rfl
@[simp] theorem Codec.stuffByte_OUT (c : Codec) (b : Byte) : (c.stuffByte b).OUT = c.OUT ++ stuffUnit b := rfl
@[simp] theorem Codec.stuffByte_REPLY_VALID (c : Codec) (b : Byte) : (c.stuffByte b).REPLY_VALID = c.REPLY_VALID := rfl
@[simp] theorem Codec.stuffByte_RESULT (c : Codec) (b : Byte) : (c.stuffByte b).RESULT = c.RESULT := rfl
@[simp] theorem Codec.stuffByte_TS_Y (c : Codec) (b : Byte) : (c.stuffByte b).TS_Y = c.TS_Y := rfl
@[simp] theorem Codec.stuffByte_TS_MO (c : Codec) (b : Byte) : (c.stuffByte b).TS_MO = c.TS_MO := rfl
@[simp] theorem Codec.stuffByte_TS_D (c : Codec) (b : Byte) : (c.stuffByte b).TS_D = c.TS_D := rfl
@[simp] theorem Codec.stuffByte_TS_H (c : Codec) (b : Byte) : (c.stuffByte b).TS_H = c.TS_H := rfl
@[simp] theorem Codec.stuffByte_TS_MI (c : Codec) (b : Byte) : (c.stuffByte b).TS_MI = c.TS_MI := rfl
@[simp] theorem Codec.stuffByte_TS_S (c : Codec) (b : Byte) : (c.stuffByte b).TS_S = c.TS_S := rfl
@[simp] theorem Codec.stuffByte_RQ (c : Codec) (b : Byte) : (c.stuffByte b).RQ = c.RQ := rfl
@[simp] theorem Codec.stuffByte_FS_STATE (c : Codec) (b : Byte) : (c.stuffByte b).FS_STATE = c.FS_STATE := rfl
@[simp] theorem Codec.stuffByte_FIRST_OK (c : Codec) (b : Byte) : (c.stuffByte b).FIRST_OK = c.FIRST_OK := rfl
@[simp] theorem Codec.stuffByte_LAST_BYTE (c : Codec) (b : Byte) : (c.stuffByte b).LAST_BYTE = c.LAST_BYTE := rfl
@[simp] theorem Codec.stuffByte_IN_POS (c : Codec) (b : Byte) : (c.stuffByte b).IN_POS = c.IN_POS := rfl
@[simp] theorem Codec.stuffByte_U (c : Codec) (b : Byte) : (c.stuffByte b).U = c.U := rfl
@[simp] theorem Codec.stuffByte_H_CMD (c : Codec) (b : Byte) : (c.stuffByte b).H_CMD = c.H_CMD := rfl
@[simp] theorem Codec.stuffByte_H_DEV (c : Codec) (b : Byte) : (c.stuffByte b).H_DEV = c.H_DEV := rfl
@[simp] theorem Codec.stuffByte_H_SEQ (c : Codec) (b : Byte) : (c.stuffByte b).H_SEQ = c.H_SEQ := rfl
@[simp] theorem Codec.stuffByte_B_COUNT (c : Codec) (b : Byte) : (c.stuffByte b).B_COUNT = c.B_COUNT := rfl
@[simp] theorem Codec.stuffByte_B_ITER (c : Codec) (b : Byte) : (c.stuffByte b).B_ITER = c.B_ITER := rfl
@[simp] theorem Codec.stuffByte_B_POS (c : Codec) (b : Byte) : (c.stuffByte b).B_POS = c.B_POS := rfl
@[simp] theorem Codec.stuffByte_CS_ACC (c : Codec) (b : Byte) : (c.stuffByte b).CS_ACC = c.CS_ACC := rfl
@[simp] theorem Codec.stuffByte_BCD_ACC (c : Codec) (b : Byte) : (c.stuffByte b).BCD_ACC = c.BCD_ACC := rfl
@[simp] theorem Codec.stuffByte_phase (c : Codec) (b : Byte) : (c.stuffByte b).phase = c.phase := rfl
@[simp] theorem Codec.stuffByte_session (c : Codec) (b : Byte) : (c.stuffByte b).session = c.session := rfl

/-! ### checksumByte (R152) -/

@[simp] theorem Codec.checksumByte_OPSEL (c : Codec) (b : Byte) : (c.checksumByte b).OPSEL = c.OPSEL := rfl
@[simp] theorem Codec.checksumByte_BUSY (c : Codec) (b : Byte) : (c.checksumByte b).BUSY = c.BUSY := rfl
@[simp] theorem Codec.checksumByte_STATUS (c : Codec) (b : Byte) : (c.checksumByte b).STATUS = c.STATUS := rfl
@[simp] theorem Codec.checksumByte_IN (c : Codec) (b : Byte) : (c.checksumByte b).IN = c.IN := rfl
@[simp] theorem Codec.checksumByte_OUT (c : Codec) (b : Byte) : (c.checksumByte b).OUT = c.OUT := rfl
@[simp] theorem Codec.checksumByte_REPLY_VALID (c : Codec) (b : Byte) : (c.checksumByte b).REPLY_VALID = c.REPLY_VALID := rfl
@[simp] theorem Codec.checksumByte_RESULT (c : Codec) (b : Byte) : (c.checksumByte b).RESULT = c.RESULT := rfl
@[simp] theorem Codec.checksumByte_TS_Y (c : Codec) (b : Byte) : (c.checksumByte b).TS_Y = c.TS_Y := rfl
@[simp] theorem Codec.checksumByte_TS_MO (c : Codec) (b : Byte) : (c.checksumByte b).TS_MO = c.TS_MO := rfl
@[simp] theorem Codec.checksumByte_TS_D (c : Codec) (b : Byte) : (c.checksumByte b).TS_D = c.TS_D := rfl
@[simp] theorem Codec.checksumByte_TS_H (c : Codec) (b : Byte) : (c.checksumByte b).TS_H = c.TS_H := rfl
@[simp] theorem Codec.checksumByte_TS_MI (c : Codec) (b : Byte) : (c.checksumByte b).TS_MI = c.TS_MI := rfl
@[simp] theorem Codec.checksumByte_TS_S (c : Codec) (b : Byte) : (c.checksumByte b).TS_S = c.TS_S := rfl
@[simp] theorem Codec.checksumByte_RQ (c : Codec) (b : Byte) : (c.checksumByte b).RQ = c.RQ := rfl
@[simp] theorem Codec.checksumByte_FS_STATE (c : Codec) (b : Byte) : (c.checksumByte b).FS_STATE = c.FS_STATE := rfl
@[simp] theorem Codec.checksumByte_FIRST_OK (c : Codec) (b : Byte) : (c.checksumByte b).FIRST_OK = c.FIRST_OK := rfl
@[simp] theorem Codec.checksumByte_LAST_BYTE (c : Codec) (b : Byte) : (c.checksumByte b).LAST_BYTE = c.LAST_BYTE := rfl
@[simp] theorem Codec.checksumByte_IN_POS (c : Codec) (b : Byte) : (c.checksumByte b).IN_POS = c.IN_POS := rfl
@[simp] theorem Codec.checksumByte_U (c : Codec) (b : Byte) : (c.checksumByte b).U = c.U := rfl
@[simp] theorem Codec.checksumByte_H_CMD (c : Codec) (b : Byte) : (c.checksumByte b).H_CMD = c.H_CMD := rfl
@[simp] theorem Codec.checksumByte_H_DEV (c : Codec) (b : Byte) : (c.checksumByte b).H_DEV = c.H_DEV := rfl
@[simp] theorem Codec.checksumByte_H_SEQ (c : Codec) (b : Byte) : (c.checksumByte b).H_SEQ = c.H_SEQ := rfl
@[simp] theorem Codec.checksumByte_B_COUNT (c : Codec) (b : Byte) : (c.checksumByte b).B_COUNT = c.B_COUNT := rfl
@[simp] theorem Codec.checksumByte_B_ITER (c : Codec) (b : Byte) : (c.checksumByte b).B_ITER = c.B_ITER := rfl
@[simp] theorem Codec.checksumByte_B_POS (c : Codec) (b : Byte) : (c.checksumByte b).B_POS = c.B_POS := rfl
@[simp] theorem Codec.checksumByte_CS_ACC (c : Codec) (b : Byte) : (c.checksumByte b).CS_ACC = c.CS_ACC ^^^ b := rfl
@[simp] theorem Codec.checksumByte_BCD_ACC (c : Codec) (b : Byte) : (c.checksumByte b).BCD_ACC = c.BCD_ACC := rfl
@[simp] theorem Codec.checksumByte_phase (c : Codec) (b : Byte) : (c.checksumByte b).phase = c.phase := rfl
@[simp] theorem Codec.checksumByte_session (c : Codec) (b : Byte) : (c.checksumByte b).session = c.session := rfl

/-! ### bcdByte (R105) -/

@[simp] theorem Codec.bcdByte_OPSEL (c : Codec) (b : Byte) : (c.bcdByte b).OPSEL = c.OPSEL := rfl
@[simp] theorem Codec.bcdByte_BUSY (c : Codec) (b : Byte) : (c.bcdByte b).BUSY = c.BUSY := rfl
@[simp] theorem Codec.bcdByte_STATUS (c : Codec) (b : Byte) : (c.bcdByte b).STATUS = c.STATUS := rfl
@[simp] theorem Codec.bcdByte_IN (c : Codec) (b : Byte) : (c.bcdByte b).IN = c.IN := rfl
@[simp] theorem Codec.bcdByte_OUT (c : Codec) (b : Byte) : (c.bcdByte b).OUT = c.OUT := rfl
@[simp] theorem Codec.bcdByte_REPLY_VALID (c : Codec) (b : Byte) : (c.bcdByte b).REPLY_VALID = c.REPLY_VALID := rfl
@[simp] theorem Codec.bcdByte_RESULT (c : Codec) (b : Byte) : (c.bcdByte b).RESULT = c.RESULT := rfl
@[simp] theorem Codec.bcdByte_TS_Y (c : Codec) (b : Byte) : (c.bcdByte b).TS_Y = c.TS_Y := rfl
@[simp] theorem Codec.bcdByte_TS_MO (c : Codec) (b : Byte) : (c.bcdByte b).TS_MO = c.TS_MO := rfl
@[simp] theorem Codec.bcdByte_TS_D (c : Codec) (b : Byte) : (c.bcdByte b).TS_D = c.TS_D := rfl
@[simp] theorem Codec.bcdByte_TS_H (c : Codec) (b : Byte) : (c.bcdByte b).TS_H = c.TS_H := rfl
@[simp] theorem Codec.bcdByte_TS_MI (c : Codec) (b : Byte) : (c.bcdByte b).TS_MI = c.TS_MI := rfl
@[simp] theorem Codec.bcdByte_TS_S (c : Codec) (b : Byte) : (c.bcdByte b).TS_S = c.TS_S := rfl
@[simp] theorem Codec.bcdByte_RQ (c : Codec) (b : Byte) : (c.bcdByte b).RQ = c.RQ := rfl
@[simp] theorem Codec.bcdByte_FS_STATE (c : Codec) (b : Byte) : (c.bcdByte b).FS_STATE = c.FS_STATE := rfl
@[simp] theorem Codec.bcdByte_FIRST_OK (c : Codec) (b : Byte) : (c.bcdByte b).FIRST_OK = c.FIRST_OK := rfl
@[simp] theorem Codec.bcdByte_LAST_BYTE (c : Codec) (b : Byte) : (c.bcdByte b).LAST_BYTE = c.LAST_BYTE := rfl
@[simp] theorem Codec.bcdByte_IN_POS (c : Codec) (b : Byte) : (c.bcdByte b).IN_POS = c.IN_POS := rfl
@[simp] theorem Codec.bcdByte_U (c : Codec) (b : Byte) : (c.bcdByte b).U = c.U := rfl
@[simp] theorem Codec.bcdByte_H_CMD (c : Codec) (b : Byte) : (c.bcdByte b).H_CMD = c.H_CMD := rfl
@[simp] theorem Codec.bcdByte_H_DEV (c : Codec) (b : Byte) : (c.bcdByte b).H_DEV = c.H_DEV := rfl
@[simp] theorem Codec.bcdByte_H_SEQ (c : Codec) (b : Byte) : (c.bcdByte b).H_SEQ = c.H_SEQ := rfl
@[simp] theorem Codec.bcdByte_B_COUNT (c : Codec) (b : Byte) : (c.bcdByte b).B_COUNT = c.B_COUNT := rfl
@[simp] theorem Codec.bcdByte_B_ITER (c : Codec) (b : Byte) : (c.bcdByte b).B_ITER = c.B_ITER := rfl
@[simp] theorem Codec.bcdByte_B_POS (c : Codec) (b : Byte) : (c.bcdByte b).B_POS = c.B_POS := rfl
@[simp] theorem Codec.bcdByte_CS_ACC (c : Codec) (b : Byte) : (c.bcdByte b).CS_ACC = c.CS_ACC := rfl
@[simp] theorem Codec.bcdByte_BCD_ACC (c : Codec) (b : Byte) : (c.bcdByte b).BCD_ACC = c.BCD_ACC * 100 + BitVec.ofNat 48 (bcdPair b) := rfl
@[simp] theorem Codec.bcdByte_phase (c : Codec) (b : Byte) : (c.bcdByte b).phase = c.phase := rfl
@[simp] theorem Codec.bcdByte_session (c : Codec) (b : Byte) : (c.bcdByte b).session = c.session := rfl

/-! ### walkStart (R220) -/

@[simp] theorem Codec.walkStart_OPSEL (c : Codec) : (c.walkStart).OPSEL = c.OPSEL := rfl
@[simp] theorem Codec.walkStart_BUSY (c : Codec) : (c.walkStart).BUSY = c.BUSY := rfl
@[simp] theorem Codec.walkStart_STATUS (c : Codec) : (c.walkStart).STATUS = c.STATUS := rfl
@[simp] theorem Codec.walkStart_IN (c : Codec) : (c.walkStart).IN = c.IN := rfl
@[simp] theorem Codec.walkStart_OUT (c : Codec) : (c.walkStart).OUT = c.OUT := rfl
@[simp] theorem Codec.walkStart_REPLY_VALID (c : Codec) : (c.walkStart).REPLY_VALID = c.REPLY_VALID := rfl
@[simp] theorem Codec.walkStart_RESULT (c : Codec) : (c.walkStart).RESULT = c.RESULT := rfl
@[simp] theorem Codec.walkStart_TS_Y (c : Codec) : (c.walkStart).TS_Y = c.TS_Y := rfl
@[simp] theorem Codec.walkStart_TS_MO (c : Codec) : (c.walkStart).TS_MO = c.TS_MO := rfl
@[simp] theorem Codec.walkStart_TS_D (c : Codec) : (c.walkStart).TS_D = c.TS_D := rfl
@[simp] theorem Codec.walkStart_TS_H (c : Codec) : (c.walkStart).TS_H = c.TS_H := rfl
@[simp] theorem Codec.walkStart_TS_MI (c : Codec) : (c.walkStart).TS_MI = c.TS_MI := rfl
@[simp] theorem Codec.walkStart_TS_S (c : Codec) : (c.walkStart).TS_S = c.TS_S := rfl
@[simp] theorem Codec.walkStart_RQ (c : Codec) : (c.walkStart).RQ = [] := rfl
@[simp] theorem Codec.walkStart_FS_STATE (c : Codec) : (c.walkStart).FS_STATE = c.FS_STATE := rfl
@[simp] theorem Codec.walkStart_FIRST_OK (c : Codec) : (c.walkStart).FIRST_OK = c.FIRST_OK := rfl
@[simp] theorem Codec.walkStart_LAST_BYTE (c : Codec) : (c.walkStart).LAST_BYTE = c.LAST_BYTE := rfl
@[simp] theorem Codec.walkStart_IN_POS (c : Codec) : (c.walkStart).IN_POS = c.IN_POS := rfl
@[simp] theorem Codec.walkStart_U (c : Codec) : (c.walkStart).U = c.U := rfl
@[simp] theorem Codec.walkStart_H_CMD (c : Codec) : (c.walkStart).H_CMD = c.H_CMD := rfl
@[simp] theorem Codec.walkStart_H_DEV (c : Codec) : (c.walkStart).H_DEV = c.H_DEV := rfl
@[simp] theorem Codec.walkStart_H_SEQ (c : Codec) : (c.walkStart).H_SEQ = c.H_SEQ := rfl
@[simp] theorem Codec.walkStart_B_COUNT (c : Codec) : (c.walkStart).B_COUNT = be16 c.U HDR_END := rfl
@[simp] theorem Codec.walkStart_B_ITER (c : Codec) : (c.walkStart).B_ITER = 0 := rfl
@[simp] theorem Codec.walkStart_B_POS (c : Codec) : (c.walkStart).B_POS = 3 := rfl
@[simp] theorem Codec.walkStart_CS_ACC (c : Codec) : (c.walkStart).CS_ACC = c.CS_ACC := rfl
@[simp] theorem Codec.walkStart_BCD_ACC (c : Codec) : (c.walkStart).BCD_ACC = c.BCD_ACC := rfl
@[simp] theorem Codec.walkStart_phase (c : Codec) : (c.walkStart).phase = c.phase := rfl
@[simp] theorem Codec.walkStart_session (c : Codec) : (c.walkStart).session = c.session := rfl

/-! ### Writing an instance back -/

@[simp] theorem State.put_eq (c : Codec) (s : State) : s.put c = .next { s with cur := c } := rfl

@[simp] theorem State.put_next (c : Codec) (s t : State) :
    s.put c = .next t ↔ t = { s with cur := c } := by
  simp [eq_comm]

theorem State.putComposite_next (c : Codec) (s t : State) :
    s.putComposite c = .next t ↔
      t = { s with
        cur := { c with CS_ACC := Config.freeCsAcc s.frees, BCD_ACC := Config.freeBcdAcc s.frees }
        frees := s.frees + 1 } := by
  simp [State.putComposite, eq_comm]

/-! ### withSession (log 25) -/

@[simp] theorem Codec.withSession_OPSEL (x : Session) (c : Codec) : (c.withSession x).OPSEL = c.OPSEL := rfl
@[simp] theorem Codec.withSession_BUSY (x : Session) (c : Codec) : (c.withSession x).BUSY = c.BUSY := rfl
@[simp] theorem Codec.withSession_STATUS (x : Session) (c : Codec) : (c.withSession x).STATUS = c.STATUS := rfl
@[simp] theorem Codec.withSession_IN (x : Session) (c : Codec) : (c.withSession x).IN = c.IN := rfl
@[simp] theorem Codec.withSession_OUT (x : Session) (c : Codec) : (c.withSession x).OUT = c.OUT := rfl
@[simp] theorem Codec.withSession_REPLY_VALID (x : Session) (c : Codec) : (c.withSession x).REPLY_VALID = c.REPLY_VALID := rfl
@[simp] theorem Codec.withSession_RESULT (x : Session) (c : Codec) : (c.withSession x).RESULT = c.RESULT := rfl
@[simp] theorem Codec.withSession_TS_Y (x : Session) (c : Codec) : (c.withSession x).TS_Y = c.TS_Y := rfl
@[simp] theorem Codec.withSession_TS_MO (x : Session) (c : Codec) : (c.withSession x).TS_MO = c.TS_MO := rfl
@[simp] theorem Codec.withSession_TS_D (x : Session) (c : Codec) : (c.withSession x).TS_D = c.TS_D := rfl
@[simp] theorem Codec.withSession_TS_H (x : Session) (c : Codec) : (c.withSession x).TS_H = c.TS_H := rfl
@[simp] theorem Codec.withSession_TS_MI (x : Session) (c : Codec) : (c.withSession x).TS_MI = c.TS_MI := rfl
@[simp] theorem Codec.withSession_TS_S (x : Session) (c : Codec) : (c.withSession x).TS_S = c.TS_S := rfl
@[simp] theorem Codec.withSession_RQ (x : Session) (c : Codec) : (c.withSession x).RQ = c.RQ := rfl
@[simp] theorem Codec.withSession_FS_STATE (x : Session) (c : Codec) : (c.withSession x).FS_STATE = c.FS_STATE := rfl
@[simp] theorem Codec.withSession_FIRST_OK (x : Session) (c : Codec) : (c.withSession x).FIRST_OK = c.FIRST_OK := rfl
@[simp] theorem Codec.withSession_LAST_BYTE (x : Session) (c : Codec) : (c.withSession x).LAST_BYTE = c.LAST_BYTE := rfl
@[simp] theorem Codec.withSession_IN_POS (x : Session) (c : Codec) : (c.withSession x).IN_POS = c.IN_POS := rfl
@[simp] theorem Codec.withSession_U (x : Session) (c : Codec) : (c.withSession x).U = c.U := rfl
@[simp] theorem Codec.withSession_H_CMD (x : Session) (c : Codec) : (c.withSession x).H_CMD = c.H_CMD := rfl
@[simp] theorem Codec.withSession_H_DEV (x : Session) (c : Codec) : (c.withSession x).H_DEV = c.H_DEV := rfl
@[simp] theorem Codec.withSession_H_SEQ (x : Session) (c : Codec) : (c.withSession x).H_SEQ = c.H_SEQ := rfl
@[simp] theorem Codec.withSession_B_COUNT (x : Session) (c : Codec) : (c.withSession x).B_COUNT = c.B_COUNT := rfl
@[simp] theorem Codec.withSession_B_ITER (x : Session) (c : Codec) : (c.withSession x).B_ITER = c.B_ITER := rfl
@[simp] theorem Codec.withSession_B_POS (x : Session) (c : Codec) : (c.withSession x).B_POS = c.B_POS := rfl
@[simp] theorem Codec.withSession_CS_ACC (x : Session) (c : Codec) : (c.withSession x).CS_ACC = c.CS_ACC := rfl
@[simp] theorem Codec.withSession_BCD_ACC (x : Session) (c : Codec) : (c.withSession x).BCD_ACC = c.BCD_ACC := rfl
@[simp] theorem Codec.withSession_phase (x : Session) (c : Codec) : (c.withSession x).phase = c.phase := rfl
@[simp] theorem Codec.withSession_session (x : Session) (c : Codec) : (c.withSession x).session = x := rfl

/-! The serial machines and the ends neither read nor move the host's side. -/

theorem Codec.begin_withSession (ph : Phase) (x : Session) (c : Codec) :
    (c.withSession x).begin ph = (c.begin ph).withSession x := rfl
theorem Codec.stuffByte_withSession (x : Session) (c : Codec) (b : Byte) :
    (c.withSession x).stuffByte b = (c.stuffByte b).withSession x := rfl
theorem Codec.checksumByte_withSession (x : Session) (c : Codec) (b : Byte) :
    (c.withSession x).checksumByte b = (c.checksumByte b).withSession x := rfl
theorem Codec.bcdByte_withSession (x : Session) (c : Codec) (b : Byte) :
    (c.withSession x).bcdByte b = (c.bcdByte b).withSession x := rfl
theorem Codec.syncByte_withSession (sync : Bool) (x : Session) (c : Codec) (b : Byte) :
    (c.withSession x).syncByte sync b = (c.syncByte sync b).withSession x := by
  unfold Codec.syncByte Codec.partnerByte Codec.plainByte
  by_cases h : c.FS_STATE = FS_ESC
  · rw [if_pos (show (c.withSession x).FS_STATE = FS_ESC from h), if_pos h]
    by_cases h2 : b = ESC_FLAG_CODE
    · rw [if_pos h2, if_pos h2]; rfl
    · by_cases h1 : b = ESC_ESC_CODE
      · rw [if_neg h2, if_pos h1, if_neg h2, if_pos h1]; rfl
      · rw [if_neg h2, if_neg h1, if_neg h2, if_neg h1]; rfl
  · rw [if_neg (show ¬(c.withSession x).FS_STATE = FS_ESC from h), if_neg h]
    by_cases hb : b = ESC
    · simp only [if_pos hb]; rfl
    · simp only [if_neg hb]; rfl

theorem Codec.finishSync_withSession (sync : Bool) (x : Session) (c : Codec) :
    (c.withSession x).finishSync sync = (c.finishSync sync).withSession x := by
  unfold Codec.finishSync
  by_cases h : c.FS_STATE = FS_ESC
  · rw [if_pos (show (c.withSession x).FS_STATE = FS_ESC from h), if_pos h]; rfl
  · rw [if_neg (show ¬(c.withSession x).FS_STATE = FS_ESC from h), if_neg h]

/-- A machine that ignores the host's side byte by byte ignores it over any bytes. -/
theorem Codec.foldl_withSession {f : Codec → Byte → Codec}
    (h : ∀ x c b, f (c.withSession x) b = (f c b).withSession x) (x : Session) (c : Codec) (B : Bytes) :
    B.foldl f (c.withSession x) = (B.foldl f c).withSession x := by
  induction B generalizing c with
  | nil => rfl
  | cons b rest ih => simp only [List.foldl_cons, h, ih]

/-! ### The host's side -/

@[simp] theorem Session.owe_nil (x : Session) : x.owe [] = x := by simp [Session.owe]
@[simp] theorem Session.owe_owed (l : List Duty) (x : Session) : (x.owe l).owed = x.owed ++ l := rfl
@[simp] theorem Session.owe_inbound (l : List Duty) (x : Session) : (x.owe l).inbound = x.inbound := rfl
@[simp] theorem Session.owesReply_owe (l : List Duty) (x : Session) :
    (x.owe l).owesReply = (x.owesReply || l.any Duty.isReply) := by simp [Session.owesReply, Session.owe]

/-- R63, R279: after OK the reply is owed, after every report. -/
theorem Codec.duties_ok {c : Codec} (h : c.STATUS = 0) :
    c.duties = c.RQ.map Duty.publish ++ [.writeReply c.OUT] := by
  simp [Codec.duties, h, Status.code]

/-- R271: no status but OK leaves a reply owed. -/
theorem Codec.duties_of_error {c : Codec} (h : c.STATUS ≠ 0) : c.duties.any Duty.isReply = false := by
  unfold Codec.duties
  rw [if_neg (by simpa [Status.code] using h)]
  split
  · rfl
  · split <;> rfl

end Sys2Proof.Machine
end

