-- ==== Sys2Proof/Laws/Ops.lean ====
section
/-! SUPPORT. What the shared operations can do: ending a PARSE, the host's readiness test, and the instances held
side by side, whose canonical form every operation keeps (log 1). -/

namespace Sys2Proof.Machine

/-! ## Build parameters and the ends of a transaction -/

@[simp] theorem admits_none (n : Nat) : admits none n = true := rfl

@[simp] theorem admits_some (m n : Nat) : admits (some m) n = decide (n ≤ m) := rfl

@[simp] theorem admits_zero (limit : Option Nat) : admits limit 0 = true := by
  cases limit <;> simp

theorem State.putParse_of_admits {s : State} {c : Codec}
    (h : admits s.cfg.RQ_DEPTH c.RQ.length = true) :
    s.putParse c = s.putComposite (c.withSession (c.session.owe c.duties)) := by
  simp [State.putParse, h]

/-- Everything the end of a PARSE can be: the instance written back, or the refusal of D32. -/
theorem State.putParse_cases (s : State) (c : Codec) :
    (admits s.cfg.RQ_DEPTH c.RQ.length = true ∧
      s.putParse c = .next { s with
        cur := { c with
          session := c.session.owe c.duties
          CS_ACC := Config.freeCsAcc s.frees, BCD_ACC := Config.freeBcdAcc s.frees }
        frees := s.frees + 1 }) ∨
    (admits s.cfg.RQ_DEPTH c.RQ.length = false ∧ s.putParse c = .refused .reportQueueTooSmall) := by
  cases h : admits s.cfg.RQ_DEPTH c.RQ.length <;>
    simp [State.putParse, State.putComposite, Codec.withSession, h]

/-- A raised status leaves no report, so it fits every build. -/
theorem State.putParse_raise (s : State) (c : Codec) (st : Status) :
    s.putParse (c.raise st) =
      s.putComposite ((c.raise st).withSession (c.session.owe (c.raise st).duties)) :=
  State.putParse_of_admits (by simp)

/-! ## The host -/

/-- The readiness test lets a result through only for an idle instance with no reply owed. -/
theorem State.whenReady_next {issued : Result} {s t : State} :
    s.whenReady issued = .next t ↔
      s.cur.BUSY = false ∧ s.cur.session.owesReply = false ∧ issued = .next t := by
  cases hb : s.cur.BUSY <;> cases hd : s.cur.session.owesReply <;> simp [State.whenReady, hb, hd]

/-- Everything a delivery that is not refused does: the payload joins the queue, and no register moves. -/
theorem State.arrive_next {payload : Bytes} {s t : State} :
    s.arrive payload = .next t ↔
      admits s.cfg.MAX_PAYLOAD_LEN payload.length = true ∧
      t = { s with cur := { s.cur with
        session := { s.cur.session with inbound := s.cur.session.inbound ++ [payload] } } } := by
  cases h : admits s.cfg.MAX_PAYLOAD_LEN payload.length <;>
    simp [State.arrive, State.put, Codec.withSession, h, eq_comm]

/-- Everything taking a payload does: it was the oldest delivered, and is delivered no longer. -/
theorem Session.take_eq_some {payload : Bytes} {x y : Session} :
    x.take payload = some y ↔ ∃ rest, x.inbound = payload :: rest ∧ y = { x with inbound := rest } := by
  unfold Session.take
  cases x.inbound with
  | nil => simp
  | cons p rest =>
    by_cases h : payload = p
    · simp [h, eq_comm]
    · simp [h, Ne.symm h]

/-- Everything a load that is not refused does. -/
theorem State.load_next {op : BitVec 3} {operand : Bytes} {s t : State} (h : s.load op operand = .next t) :
    s.cur.BUSY = false ∧ admits s.cfg.MAX_PAYLOAD_LEN operand.length = true ∧
    ∃ x, t = { s with cur := { s.cur with OPSEL := op, IN := operand, session := x } } ∧
      (op = OP_PARSE → s.cur.session.take operand = some x) ∧ (op ≠ OP_PARSE → x = s.cur.session) := by
  unfold State.load at h
  split at h
  · simp at h
  · rename_i hb
    split at h
    · simp at h
    · rename_i ha
      split at h
      · rename_i hop
        split at h
        · simp at h
        · rename_i x hx
          exact ⟨by simpa using hb, by simpa using ha, x, (Host.Outcome.next.inj h).symm, fun _ => hx,
            fun hn => absurd hop hn⟩
      · rename_i hop
        exact ⟨by simpa using hb, by simpa using ha, s.cur.session, (Host.Outcome.next.inj h).symm,
          fun he => absurd he hop, fun _ => rfl⟩

/-- Everything the host's next duty does: at most one event, and only the host's side of the connection moves. -/
theorem State.collect_cases (k : Nat) (s : State) :
    (s.cur.session.owed = [] ∧ s.collect k = .next s) ∨
    ∃ d rest, s.cur.session.owed = d :: rest ∧
      s.collect k = .next { s with
        cur := { s.cur with session := { s.cur.session with owed := rest } }
        events := s.events ++ [d.event k] } := by
  unfold State.collect
  cases s.cur.session.owed with
  | nil => exact .inl ⟨rfl, rfl⟩
  | cons d rest => exact .inr ⟨d, rest, rfl, rfl⟩

/-! ## Instances side by side -/

/-- The instances among the others have rising connections. -/
def Rising (l : List (Nat × Codec)) : Prop := l.Pairwise fun p q => p.1 < q.1

theorem mem_insertConn {k : Nat} {c : Codec} {l : List (Nat × Codec)} {p : Nat × Codec}
    (h : p ∈ insertConn k c l) : p = (k, c) ∨ p ∈ l := by
  induction l with
  | nil => simpa [insertConn] using h
  | cons q rest ih =>
    obtain ⟨j, d⟩ := q
    simp only [insertConn] at h
    split at h
    · simpa using h
    · split at h
      · rcases List.mem_cons.1 h with h | h
        · exact .inl h
        · exact .inr (List.mem_cons_of_mem _ h)
      · rcases List.mem_cons.1 h with h | h
        · exact .inr (h ▸ List.mem_cons_self)
        · exact (ih h).imp_right (List.mem_cons_of_mem _)

theorem insertConn_rising {k : Nat} {c : Codec} {l : List (Nat × Codec)} (h : Rising l) :
    Rising (insertConn k c l) := by
  induction l with
  | nil => simp [insertConn, Rising]
  | cons q rest ih =>
    obtain ⟨j, d⟩ := q
    obtain ⟨hj, hrest⟩ := List.pairwise_cons.1 h
    simp only [insertConn]
    split
    · rename_i hlt
      refine List.pairwise_cons.2 ⟨fun p hp => ?_, h⟩
      rcases List.mem_cons.1 hp with rfl | hp
      · exact hlt
      · exact lt_trans hlt (hj p hp)
    · split
      · rename_i heq
        subst heq
        exact List.pairwise_cons.2 ⟨hj, hrest⟩
      · refine List.pairwise_cons.2 ⟨fun p hp => ?_, ih hrest⟩
        rcases mem_insertConn hp with rfl | hp
        · show j < k
          omega
        · exact hj p hp

theorem removeConn_rising {k : Nat} {l : List (Nat × Codec)} (h : Rising l) :
    Rising (removeConn k l) := h.filter _

theorem mem_removeConn {k : Nat} {l : List (Nat × Codec)} {p : Nat × Codec} :
    p ∈ removeConn k l ↔ p ∈ l ∧ p.1 ≠ k := by
  simp [removeConn]

theorem findConn_of_absent {k : Nat} {l : List (Nat × Codec)} (h : ∀ p ∈ l, p.1 ≠ k) :
    findConn k l = none := by
  induction l with
  | nil => rfl
  | cons q rest ih =>
    have hq : k ≠ q.1 := fun e => h q List.mem_cons_self e.symm
    simp [findConn, hq, ih fun p hp => h p (List.mem_cons_of_mem _ hp)]

theorem findConn_mem {k : Nat} {c : Codec} {l : List (Nat × Codec)} (h : findConn k l = some c) :
    (k, c) ∈ l := by
  induction l with
  | nil => simp [findConn] at h
  | cons q rest ih =>
    obtain ⟨j, d⟩ := q
    simp only [findConn] at h
    split at h
    · simp_all
    · exact List.mem_cons_of_mem _ (ih h)

theorem findConn_insertConn {k j : Nat} {c : Codec} {l : List (Nat × Codec)} (h : Rising l) :
    findConn j (insertConn k c l) = if j = k then some c else findConn j l := by
  induction l with
  | nil => simp [insertConn, findConn]
  | cons q rest ih =>
    obtain ⟨i, d⟩ := q
    obtain ⟨hi, hrest⟩ := List.pairwise_cons.1 h
    simp only [insertConn]
    split
    · simp [findConn]
    · split
      · rename_i heq
        subst heq
        simp only [findConn]
        split <;> rfl
      · rename_i hne
        simp only [findConn, ih hrest]
        split
        · rename_i he
          subst he
          simp [Ne.symm hne]
        · rfl

theorem findConn_removeConn {k j : Nat} {l : List (Nat × Codec)} :
    findConn j (removeConn k l) = if j = k then none else findConn j l := by
  induction l with
  | nil => simp [removeConn, findConn]
  | cons q rest ih =>
    obtain ⟨i, d⟩ := q
    simp only [removeConn, List.filter_cons] at ih ⊢
    by_cases hik : i = k
    · subst hik
      by_cases hj : j = i <;> simp_all [findConn]
    · by_cases hj : j = i
      · subst hj
        simp [hik, findConn]
      · simp [hik, findConn, hj, ih]

/-- The instances put back together hold what the machine holds. -/
theorem State.findConn_parked {s : State} (h : Rising s.others) (j : Nat) :
    findConn j s.parked = s.conn j := by
  unfold State.parked State.conn
  cases hp : s.port with
  | none => simp
  | some k =>
    simp only [findConn_insertConn h, Option.some.injEq]
    by_cases hjk : j = k
    · simp [hjk]
    · simp [hjk, Ne.symm hjk]

theorem State.parked_rising {s : State} (h : Rising s.others) : Rising s.parked := by
  unfold State.parked
  split
  · exact h
  · exact insertConn_rising h

@[simp] theorem State.select_self {s : State} {k : Nat} (h : s.port = some k) : s.select k = some s := by
  simp [State.select, h]

/-- Everything giving the turn to a connection does: that instance is served, and every connection still has the
instance it had. -/
theorem State.select_conn {s t : State} {k : Nat} (h : Rising s.others) (hs : s.select k = some t) :
    t.port = some k ∧ s.conn k = some t.cur ∧ Rising t.others ∧ (∀ j, t.conn j = s.conn j) ∧
    t.cfg = s.cfg ∧ t.script = s.script ∧ t.events = s.events ∧ t.frees = s.frees := by
  unfold State.select at hs
  split at hs
  · rename_i hp
    obtain rfl := Option.some.inj hs
    exact ⟨hp, by simp [State.conn, hp], h, fun _ => rfl, rfl, rfl, rfl, rfl⟩
  · rename_i hp
    split at hs
    · simp at hs
    · rename_i c hc
      obtain rfl := Option.some.inj hs
      refine ⟨rfl, by simp [State.conn, hp, hc], removeConn_rising (State.parked_rising h), fun j => ?_,
        rfl, rfl, rfl, rfl⟩
      by_cases hj : j = k
      · subst hj
        simp [State.conn, hp, hc]
      · have hkj : k ≠ j := Ne.symm hj
        rw [← State.findConn_parked h j]
        simp [State.conn, hkj, findConn_removeConn, hj]

end Sys2Proof.Machine
end

