-- ==== Sys2Proof/Laws/Machine.lean ====
section
/-! SUPPORT. One inversion lemma per shared operation of the codec, the parser and the step, for provers to cite
instead of unfolding. -/

namespace Sys2Proof.Machine

/-! ## Words and slices -/

@[simp] theorem bytes16_length (w : BitVec 16) : (bytes16 w).length = 2 := rfl

@[simp] theorem bytes48_length (w : BitVec 48) : (bytes48 w).length = 6 := rfl

theorem slice_length (B : Bytes) (a b : Nat) : (slice B a b).length = min (b - a) (B.length - a) := by
  simp [slice]

theorem byteAt_of_lt {B : Bytes} {i : Nat} (h : i < B.length) : byteAt B i = B[i] := by
  simp [byteAt, h]

/-! ## The unstuffing machine -/

@[simp] theorem unstuff_nil : unstuff [] = [] := rfl

@[simp] theorem unstuff_single (b : Byte) : unstuff [b] = [b] := rfl

theorem unstuff_plain {b : Byte} (h : b ≠ ESC) (rest : Bytes) : unstuff (b :: rest) = b :: unstuff rest := by
  cases rest with
  | nil => rfl
  | cons x rest => simp [unstuff, h]

theorem unstuff_escape (x : Byte) (rest : Bytes) :
    unstuff (ESC :: x :: rest) =
      (if x = ESC_FLAG_CODE then [FLAG] else if x = ESC_ESC_CODE then [ESC] else [ESC, x]) ++ unstuff rest := by
  simp only [unstuff, if_true]
  split
  · rfl
  · split <;> rfl

@[simp] theorem stuff_nil : stuff [] = [] := rfl

@[simp] theorem stuff_cons (b : Byte) (rest : Bytes) : stuff (b :: rest) = stuffUnit b ++ stuff rest := by
  simp [stuff]

/-- The frame of one byte step: only the machine's own registers and its output buffer move, and IN_POS rises by
one. -/
theorem Codec.syncByte_frame (sync : Bool) (c : Codec) (b : Byte) :
    c.syncByte sync b = { c with
      U := (c.syncByte sync b).U, OUT := (c.syncByte sync b).OUT
      FS_STATE := (c.syncByte sync b).FS_STATE, FIRST_OK := (c.syncByte sync b).FIRST_OK
      LAST_BYTE := if sync then b else c.LAST_BYTE, IN_POS := c.IN_POS + 1 } := by
  unfold Codec.syncByte Codec.partnerByte Codec.plainByte
  by_cases h : c.FS_STATE = FS_ESC
  · simp only [if_pos h]
    split
    · rfl
    · split <;> rfl
  · by_cases hb : b = ESC
    · simp only [if_neg h, if_pos hb]
      rfl
    · simp only [if_neg h, if_neg hb]
      rfl

/-- After any byte the machine is in FS_DATA or FS_ESC (R171). -/
theorem Codec.syncByte_FS_STATE (sync : Bool) (c : Codec) (b : Byte) :
    (c.syncByte sync b).FS_STATE = if c.FS_STATE ≠ FS_ESC ∧ b = ESC then FS_ESC else FS_DATA := by
  unfold Codec.syncByte Codec.partnerByte Codec.plainByte Codec.escUnit
  by_cases h : c.FS_STATE = FS_ESC
  · simp only [h, ne_eq, not_true_eq_false, false_and, if_true, if_false]
    split
    · simp
    · split <;> simp
  · by_cases hb : b = ESC <;> simp [h, hb]

/-- The frame of the machine's finish. -/
theorem Codec.finishSync_frame (sync : Bool) (c : Codec) :
    c.finishSync sync = { c with
      U := (c.finishSync sync).U, OUT := (c.finishSync sync).OUT
      FS_STATE := (c.finishSync sync).FS_STATE } := by
  unfold Codec.finishSync Codec.trailingEscape Codec.emit
  split <;> rfl

/-! ## Reports and the walker -/

theorem Codec.singleReport_eq_some {c : Codec} {base lim : Nat} {r : Report} :
    c.singleReport base lim = some r ↔ base + 28 ≤ lim ∧ r = reportAt c.U c.H_DEV base := by
  unfold Codec.singleReport SR_MIN
  by_cases h : base + 28 > lim
  · simp only [h, if_true]
    constructor
    · simp
    · rintro ⟨h', -⟩
      omega
  · simp only [h, if_false, Option.some.injEq]
    exact ⟨fun e => ⟨by omega, e.symm⟩, fun e => e.2.symm⟩

/-- Everything one iteration of the walker does when it does not raise: the prefix and the item lie inside the
body, the item has at least 28 bytes, one record is appended, and the cursor passes the item. -/
theorem Codec.walkItem_eq_some {c d : Codec} (h : c.walkItem = some d) :
    c.B_POS + 2 + (be16 c.U (13 + c.B_POS)).toNat ≤ c.BLEN ∧ 28 ≤ (be16 c.U (13 + c.B_POS)).toNat ∧
    d = { c with
      RQ := c.RQ ++ [reportAt c.U c.H_DEV (13 + (c.B_POS + 2))]
      B_POS := c.B_POS + 2 + (be16 c.U (13 + c.B_POS)).toNat
      B_ITER := c.B_ITER + 1 } := by
  unfold Codec.walkItem HDR_END at h
  split at h
  · simp at h
  · simp only at h
    split at h
    · simp at h
    · rename_i hfit
      split at h
      · simp at h
      · rename_i r hr
        obtain ⟨hlen, rfl⟩ := Codec.singleReport_eq_some.1 hr
        exact ⟨by omega, by omega, (Option.some.inj h).symm⟩

theorem Codec.walk_of_raise {c : Codec} (h : c.walkItem = none) (n : Nat) : c.walk (n + 1) = (c, false) := by
  simp [Codec.walk, h]

theorem Codec.walk_of_item {c d : Codec} (h : c.walkItem = some d) (n : Nat) : c.walk (n + 1) = d.walk n := by
  simp [Codec.walk, h]

/-- The frame of the walker, whether or not it completes. -/
theorem Codec.walk_frame (n : Nat) (c : Codec) :
    (c.walk n).1 = { c with
      RQ := (c.walk n).1.RQ, B_POS := (c.walk n).1.B_POS, B_ITER := (c.walk n).1.B_ITER } := by
  induction n generalizing c with
  | zero => rfl
  | succ n ih =>
    cases h : c.walkItem with
    | none => rw [Codec.walk_of_raise h]
    | some d =>
      have hd := ih d
      rw [Codec.walk_of_item h]
      generalize (d.walk n).1 = e at hd ⊢
      obtain ⟨-, -, rfl⟩ := Codec.walkItem_eq_some h
      exact hd

/-- The walker appends at most one record an iteration, and exactly that many when it completes. -/
theorem Codec.walk_length (n : Nat) (c : Codec) :
    (c.walk n).1.RQ.length ≤ c.RQ.length + n ∧
    ((c.walk n).2 = true → (c.walk n).1.RQ.length = c.RQ.length + n) := by
  induction n generalizing c with
  | zero => simp [Codec.walk]
  | succ n ih =>
    cases h : c.walkItem with
    | none => simp [Codec.walk_of_raise h]
    | some d =>
      have hd := ih d
      rw [Codec.walk_of_item h]
      have hlen : d.RQ.length = c.RQ.length + 1 := by
        obtain ⟨-, -, rfl⟩ := Codec.walkItem_eq_some h
        simp
      exact ⟨by omega, fun hc => by have := hd.2 hc; omega⟩

/-! ## The header -/

/-- Everything the header step can do: R172's rejection, R174's, or the header registers of R175. -/
theorem Codec.loadHeader_cases (c : Codec) :
    (c.frameValid = false ∧ c.loadHeader = .error .invalidFrame) ∨
    (c.frameValid = true ∧ c.NU < 15 ∧ c.loadHeader = .error .malformed) ∨
    (c.frameValid = true ∧ 15 ≤ c.NU ∧
      c.loadHeader = .ok { c with
        H_CMD := be16 c.U 1, H_DEV := be48 c.U 5, H_SEQ := be16 c.U 11, phase := .dispatch }) := by
  unfold Codec.loadHeader NU_MIN
  cases h : c.frameValid with
  | false => simp
  | true =>
    by_cases hn : c.NU < 15
    · simp [hn]
    · simp [hn]; omega

/-- The header check before an action. -/
theorem Codec.checked_of_long {c action : Codec} (h : 15 ≤ c.NU) : c.checked action = action := by
  unfold Codec.checked NU_MIN
  exact if_neg (by omega)

theorem Codec.checked_of_short {c action : Codec} (h : c.NU < 15) : c.checked action = c.raise .malformed := by
  unfold Codec.checked NU_MIN
  exact if_pos h

/-! ## The step -/

theorem step_nil {s : State} (h : s.script = []) : step s = s.runStep := by
  simp [step, h]

theorem step_cons {s : State} {m : Move} {rest : List Move} (h : s.script = m :: rest) :
    step s = State.move m { s with script := rest } := by
  simp [step, h]

theorem State.serve_of_select {s t : State} {k : Nat} {act : State → Result} (h : s.select k = some t) :
    s.serve k act = act t := by
  simp [State.serve, h]

theorem State.execDecoded_ok {f : Format} {bytes more : Bytes} {i : Instr} {s : State}
    (h : decode f bytes = .ok (i, more)) : s.execDecoded f bytes = exec i s := by
  simp [State.execDecoded, h]

theorem State.runStep_idle {s : State} (h : s.cur.BUSY = false) : s.runStep = .next s := by
  simp [State.runStep, h]

end Sys2Proof.Machine
end

