-- ==== Sys2Proof/Laws/PerInstr.lean ====
section
/-! SUPPORT. What holds of each instruction as syntax, one lemma per constructor: its encoding has as many bytes
as the opcode table gives its row. -/

namespace Sys2Proof.Laws.EncodedSize

open Sys2Proof

/-- The bytes a format's rows take: OPSEL3 a byte that carries 3 bits, CMDID16 and REPLY a word, ESC a pair but
for the lone trailing escape (30_encoding.md R77, R79, R80, R82). -/
def rowBytes (i : Instr) : Nat :=
  match i.format with
  | .opsel3 => 1
  | .cmdid16 => 2
  | .esc => if i = .escTrailing then 1 else 2
  | .reply => 2

def Statement (i : Instr) : Prop := (encode i).length = rowBytes i

theorem unstuff : Statement .unstuff := rfl
theorem stuff : Statement .stuff := rfl
theorem checksum : Statement .checksum := rfl
theorem bcd2dec : Statement .bcd2dec := rfl
theorem bcd2ts : Statement .bcd2ts := rfl
theorem parse : Statement .parse := rfl
theorem build8001 : Statement .build8001 := rfl
theorem build8100 : Statement .build8100 := rfl
theorem locReport : Statement .locReport := rfl
theorem batchLoc : Statement .batchLoc := rfl
theorem register : Statement .register := rfl
theorem heartbeat : Statement .heartbeat := rfl
theorem auth2 : Statement .auth2 := rfl
theorem unrecognized (cmd : BitVec 16) : Statement (.unrecognized cmd) := rfl
theorem escFlag : Statement .escFlag := rfl
theorem escEsc : Statement .escEsc := rfl
theorem escOther (partner : Byte) : Statement (.escOther partner) := by
  simp [Statement, rowBytes, Instr.format, encode]
theorem escTrailing : Statement .escTrailing := rfl
theorem reply8001 : Statement .reply8001 := rfl
theorem reply8100 : Statement .reply8100 := rfl

end Sys2Proof.Laws.EncodedSize
end

