-- ==== Sys2Proof/Tests/Slice0.lean ====
section
/-! SUPPORT. The model's own tests: ill-formed terms refused, words written out from the encodings decoded, one step
of each instruction against 95_test_vectors.md (derived by the spec from its rules), and a witness for every
statement with hypotheses. -/

open Sys2Proof Sys2Proof.Machine

namespace Sys2Proof.Tests

-- one kernel check at a time: many waiting at once ask for too much thread stack
set_option Elab.async false

/-! ## Ill-formed terms -/

theorem test_unrecognized_refuses_a_handled_command : (Instr.unrecognized 0x0704).wellFormed = false := by decide
theorem test_unrecognized_takes_a_reply_id : (Instr.unrecognized 0x8001).wellFormed = true := by decide
theorem test_escOther_refuses_the_flag_code : (Instr.escOther 0x02).wellFormed = false := by decide
theorem test_escOther_refuses_the_escape_code : (Instr.escOther 0x01).wellFormed = false := by decide

/-! ## Words written out from R77, R79, R80, R82 -/

theorem test_decode_unstuff : decode .opsel3 [0b00000000] = .ok (.unstuff, []) := by decide
theorem test_decode_stuff : decode .opsel3 [0b00000001] = .ok (.stuff, []) := by decide
theorem test_decode_checksum : decode .opsel3 [0b00000010] = .ok (.checksum, []) := by decide
theorem test_decode_bcd2dec : decode .opsel3 [0b00000011] = .ok (.bcd2dec, []) := by decide
theorem test_decode_bcd2ts : decode .opsel3 [0b00000100] = .ok (.bcd2ts, []) := by decide
theorem test_decode_parse : decode .opsel3 [0b00000101] = .ok (.parse, []) := by decide
theorem test_decode_build8001 : decode .opsel3 [0b00000110] = .ok (.build8001, []) := by decide
theorem test_decode_build8100 : decode .opsel3 [0b00000111] = .ok (.build8100, []) := by decide
theorem test_decode_locReport : decode .cmdid16 [0b00000010, 0b00000000] = .ok (.locReport, []) := by decide
theorem test_decode_batchLoc : decode .cmdid16 [0b00000111, 0b00000100] = .ok (.batchLoc, []) := by decide
theorem test_decode_register : decode .cmdid16 [0b00000001, 0b00000000] = .ok (.register, []) := by decide
theorem test_decode_heartbeat : decode .cmdid16 [0b00000000, 0b00000010] = .ok (.heartbeat, []) := by decide
theorem test_decode_auth2 : decode .cmdid16 [0b00000001, 0b00000010] = .ok (.auth2, []) := by decide
theorem test_decode_unrecognized :
    decode .cmdid16 [0b10000000, 0b00000001] = .ok (.unrecognized 0x8001, []) := by decide
theorem test_decode_escFlag : decode .esc [0b01111101, 0b00000010] = .ok (.escFlag, []) := by decide
theorem test_decode_escEsc : decode .esc [0b01111101, 0b00000001] = .ok (.escEsc, []) := by decide
theorem test_decode_escOther : decode .esc [0b01111101, 0b00000011] = .ok (.escOther 0x03, []) := by decide
theorem test_decode_escTrailing : decode .esc [0b01111101] = .ok (.escTrailing, []) := by decide
theorem test_decode_reply8001 : decode .reply [0b10000000, 0b00000001] = .ok (.reply8001, []) := by decide
theorem test_decode_reply8100 : decode .reply [0b10000001, 0b00000000] = .ok (.reply8100, []) := by decide

theorem test_decode_rejects_a_fourth_select_bit : decode .opsel3 [0x08] = .error .opselOverThreeBits := by decide
theorem test_decode_rejects_half_a_command : decode .cmdid16 [0x02] = .error .truncated := by decide
theorem test_decode_rejects_a_plain_byte_as_escape : decode .esc [0x7E, 0x02] = .error .notAnEscape := by decide
theorem test_decode_rejects_another_reply_id : decode .reply [0x80, 0x02] = .error .notAReplyId := by decide

theorem test_table_words :
    decodeTableWord 8 0x5 = some .parse ∧ decodeTableWord 8 0x7D = some .escTrailing ∧
    decodeTableWord 16 0x0200 = some .locReport ∧ decodeTableWord 16 0x0000 = some (.unrecognized 0) ∧
    decodeTableWord 16 0x7D02 = some .escFlag ∧ decodeTableWord 16 0x7D04 = some (.escOther 0x04) ∧
    decodeTableWord 16 0x8100 = some .reply8100 ∧ decodeTableWord 8 0x85 = none := by decide

/-! ## One step of each instruction -/

/-- An idle instance with a request. -/
def ready (op : BitVec 3) (operand : Bytes) : State :=
  { State.reset with cur := { Codec.reset with OPSEL := op, IN := operand } }

/-- What a result leaves in the served instance. -/
def left {α : Type} (r : Result) (f : Codec → α) : Option α :=
  match r with
  | .next t => some (f t.cur)
  | .fault _ => none
  | .refused _ => none

/-- Whether a result is a next state. -/
def runs (r : Result) : Bool :=
  match r with
  | .next _ => true
  | .fault _ => false
  | .refused _ => false

theorem next_of_runs {r : Result} (h : runs r = true) : ∃ t, r = .next t := by
  match r with
  | .next t => exact ⟨t, rfl⟩

/-- A state whose next move is `m`. -/
def scheduled (m : Move) (c : Codec) : State := { State.reset with cur := c, script := [m] }

/-- P-0002: a heartbeat, also U, nothing being stuffed. -/
def heartbeatPayload : Bytes :=
  [0x7E, 0x00, 0x02, 0x00, 0x00, 0x01, 0x38, 0x00, 0x13, 0x80, 0x00, 0x00, 0x05, 0xAD, 0x7E]

/-- P-0002's reply. -/
def heartbeatReply : Bytes :=
  [0x7E, 0x80, 0x01, 0x00, 0x05, 0x01, 0x38, 0x00, 0x13, 0x80, 0x00, 0x00, 0x05, 0x00, 0x05, 0x00, 0x02, 0x00,
   0x2C, 0x7E]

/-- The 28-byte body of P-0200. -/
def reportBody : Bytes :=
  [0x00, 0x00, 0x00, 0x00, 0x00, 0x00, 0x00, 0x02, 0x01, 0x57, 0xFB, 0x6A, 0x06, 0xCA, 0x80, 0xE0,
   0x00, 0x32, 0x00, 0x3C, 0x00, 0x5A, 0x26, 0x11, 0x11, 0x20, 0x42, 0x05]

/-- U of P-0200 but for the checksum byte (P-0200a), with a body and a command of choice. -/
def messageWith (cmd body : Bytes) : Bytes :=
  [0x7E] ++ cmd ++ [0x00, 0x1C, 0x01, 0x38, 0x00, 0x13, 0x80, 0x00, 0x00, 0x7E] ++ body ++ [0xE3, 0x7E]

/-- A PARSE at dispatch, its header loaded from `messageWith`. -/
def atDispatch (cmd : BitVec 16) (body : Bytes) : State :=
  { State.reset with cur := { Codec.reset with
      OPSEL := OP_PARSE, BUSY := true, phase := .dispatch, FS_STATE := 1, IN_POS := 1, IN := [0x7E]
      U := messageWith (bytes16 cmd) body, H_CMD := cmd, H_DEV := 0x013800138000, H_SEQ := 0x007E } }

/-- A PARSE or UNSTUFF between bytes. -/
def scanning (ph : Phase) (fs : BitVec 2) (pos : Nat) (operand : Bytes) : State :=
  { State.reset with cur := { Codec.reset with
      OPSEL := if ph = .sync then OP_PARSE else OP_UNSTUFF
      BUSY := true, phase := ph, FS_STATE := fs, IN_POS := pos, IN := operand } }

-- US-12
theorem test_unstuff : left (exec .unstuff (ready 0 [0x7E, 0x00, 0x7D, 0x02, 0x7D, 0x03, 0x7D, 0x7E])) (·.OUT) =
    some [0x7E, 0x00, 0x7E, 0x7D, 0x03, 0x7D, 0x7E] := by decide +kernel
-- US-4
theorem test_unstuff_trailing : left (exec .unstuff (ready 0 [0x7D])) (·.OUT) = some [0x7D] := by decide +kernel
-- ST-5
theorem test_stuff : left (exec .stuff (ready 1 [0x00, 0x7E, 0x7D, 0xFF])) (·.OUT) =
    some [0x00, 0x7D, 0x02, 0x7D, 0x01, 0xFF] := by decide +kernel
-- CK-5
theorem test_checksum : left (exec .checksum (ready 2 [0x80, 0x01, 0x00, 0x05])) (·.RESULT) =
    some 0x84 := by decide +kernel
-- BC-11
theorem test_bcd2dec : left (exec .bcd2dec (ready 3 [0xFF, 0xFF, 0xFF, 0xFF, 0xFF, 0xFF])) (·.RESULT) =
    some 0x1840D131AA9 := by decide +kernel
-- BC-13
theorem test_bcd2dec_bad : left (exec .bcd2dec (ready 3 [0, 0, 0, 0, 0, 0, 0])) (fun c => (c.STATUS, c.RESULT)) =
    some (4, 0) := by decide +kernel
-- BC-16
theorem test_bcd2ts : left (exec .bcd2ts (ready 4 [0x99, 0x13, 0x00, 0x24, 0x60, 0xFF]))
    (fun c => (c.TS_Y, c.TS_MO, c.TS_D, c.TS_H, c.TS_MI, c.TS_S)) = some (2099, 13, 0, 24, 60, 165) := by
  decide +kernel
-- BC-18
theorem test_bcd2ts_bad : left (exec .bcd2ts (ready 4 [0x26, 0x11, 0x11])) (fun c => (c.STATUS, c.TS_Y)) =
    some (4, 0) := by decide +kernel
-- P-0002
theorem test_parse : left (exec .parse (ready 5 heartbeatPayload)) (fun c => (c.STATUS, c.REPLY_VALID, c.OUT)) =
    some (0, true, heartbeatReply) := by decide +kernel
-- PF-4
theorem test_parse_invalid : left (exec .parse (ready 5 [0x7D, 0x7E])) (fun c => (c.STATUS, c.U)) =
    some (1, [0x7D, 0x7E]) := by decide +kernel
-- RB-5
theorem test_build8100 :
    left (exec .build8100 (ready 7 [0x01, 0x38, 0x00, 0x13, 0x80, 0x00, 0x7D, 0x00])) (·.OUT) =
    some [0x7E, 0x81, 0x00, 0x00, 0x08, 0x01, 0x38, 0x00, 0x13, 0x80, 0x00, 0x7D, 0x01, 0x00, 0x7D, 0x01, 0x00,
      0x00, 0x49, 0x00, 0x62, 0x46, 0x45, 0x0B, 0x7E] := by decide +kernel
-- RB-2
theorem test_build8001 :
    left (exec .build8001 (ready 6 [0x7E, 0x7D, 0x00, 0x00, 0x00, 0x00, 0x7E, 0x7E, 0x7D, 0x7D])) (·.OUT) =
    some [0x7E, 0x80, 0x01, 0x00, 0x05, 0x7D, 0x02, 0x7D, 0x01, 0x00, 0x00, 0x00, 0x00, 0x7D, 0x02, 0x7D, 0x02,
      0x7D, 0x02, 0x7D, 0x02, 0x7D, 0x01, 0x7D, 0x01, 0x00, 0x87, 0x7E] := by decide +kernel
-- P-0200: its reply, and its report
theorem test_locReport : left (exec .locReport (atDispatch 0x0200 reportBody)) (fun c => (c.STATUS, c.OUT)) =
    some (0, [0x7E, 0x80, 0x01, 0x00, 0x05, 0x01, 0x38, 0x00, 0x13, 0x80, 0x00, 0x00, 0x7D, 0x02, 0x00, 0x7D, 0x02,
      0x02, 0x00, 0x00, 0x2C, 0x7E]) := by decide +kernel
theorem test_locReport_report : left (exec .locReport (atDispatch 0x0200 reportBody)) (·.RQ) =
    some [{ DEV_RAW := 0x013800138000, DEV_DEC := 13800138000, LAT := 22543210, LON := 113934560, ALT := 50
            SPEED := 60, DIR := 90, TS_RAW := 0x261111204205, TS_Y := 2026, TS_MO := 11, TS_D := 11, TS_H := 20
            TS_MI := 42, TS_S := 5, VOLT := 12 }] := by decide +kernel
-- B-4 with one item fewer read than declared
theorem test_batchLoc : left (exec .batchLoc (atDispatch 0x0704
      ([0x00, 0x02, 0x01, 0x00, 0x1C] ++ reportBody ++ [0x00, 0x1C] ++ reportBody)))
    (fun c => (c.STATUS, c.RQ.length, c.B_COUNT, c.B_ITER, c.B_POS)) = some (0, 1, 2, 1, 33) := by decide +kernel
-- B-5
theorem test_batchLoc_drops_all : left (exec .batchLoc (atDispatch 0x0704
      ([0x00, 0x03, 0x01, 0x00, 0x1C] ++ reportBody)))
    (fun c => (c.STATUS, c.RQ, c.REPLY_VALID, c.OUT)) = some (3, [], false, []) := by decide +kernel
-- P-0100's reply with this header's fields
theorem test_register : left (exec .register (atDispatch 0x0100 [])) (fun c => (c.STATUS, c.OUT)) =
    some (0, [0x7E, 0x81, 0x00, 0x00, 0x08, 0x01, 0x38, 0x00, 0x13, 0x80, 0x00, 0x00, 0x7D, 0x02, 0x00, 0x7D, 0x02,
      0x00, 0x49, 0x00, 0x62, 0x46, 0x45, 0x0B, 0x7E]) := by decide +kernel
theorem test_heartbeat_reads_no_body : left (exec .heartbeat (atDispatch 0x0002 [0xDE, 0xAD]))
    (fun c => (c.STATUS, c.RQ, c.REPLY_VALID)) = some (0, [], true) := by decide +kernel
theorem test_auth2_echoes_its_command : left (exec .auth2 (atDispatch 0x0102 []))
    (fun c => slice (unstuff c.OUT) 15 17) = some [0x01, 0x02] := by decide +kernel
-- PF-9
theorem test_unrecognized : left (exec (.unrecognized 3) (atDispatch 0x0003 []))
    (fun c => (c.STATUS, c.REPLY_VALID, c.OUT)) = some (2, false, []) := by decide +kernel
-- the frame-sync trace of 95_test_vectors.md 2.4, steps 3, 5 and 7, and US-9
theorem test_escFlag : left (exec .escFlag (scanning .sync 2 3 [0x7E, 0x00, 0x7D, 0x02]))
    (fun c => (c.FS_STATE, c.U, c.IN_POS, c.LAST_BYTE)) = some (1, [0x7E], 4, 0x02) := by decide +kernel
theorem test_escEsc : left (exec .escEsc (scanning .unstuff 2 1 [0x7D, 0x01])) (fun c => (c.FS_STATE, c.OUT)) =
    some (1, [0x7D]) := by decide +kernel
theorem test_escOther : left (exec (.escOther 0x7E) (scanning .sync 2 1 [0x7D, 0x7E])) (fun c => (c.U, c.LAST_BYTE)) =
    some ([0x7D, 0x7E], 0x7E) := by decide +kernel
theorem test_escTrailing : left (exec .escTrailing (scanning .unstuff 2 1 [0x7D])) (fun c => (c.OUT, c.IN_POS)) =
    some ([0x7D], 1) := by decide +kernel
-- RB-1
theorem test_reply8001 : left (exec .reply8001 (ready 6 [0x01, 0x38, 0x00, 0x13, 0x80, 0x00, 0x00, 0x05, 0x00, 0x02]))
    (fun c => (c.OUT, c.REPLY_VALID)) = some (heartbeatReply, false) := by decide +kernel
-- RB-7
theorem test_reply8100_bad : left (exec .reply8100 (ready 7 [0x01, 0x38, 0x00, 0x13, 0x80, 0x00, 0x00, 0x01, 0x00, 0x00]))
    (fun c => (c.STATUS, c.NOUT)) = some (4, 0) := by decide +kernel

/-! ## The very next step runs a placed word -/

theorem test_placed_parse_runs : left (step (State.reset.withFetchWord 8 5)) (·.STATUS) = some 1 := by decide +kernel
theorem test_placed_command_runs : left (step (State.reset.withFetchWord 16 0x0002)) (fun c => (c.STATUS, c.H_CMD)) =
    some (0, 0x0002) := by decide +kernel
theorem test_placed_escape_runs : left (step (State.reset.withFetchWord 16 0x7D02)) (fun c => (c.OUT, c.IN_POS)) =
    some ([0x7E], 2) := by decide +kernel
theorem test_placed_trailing_escape_runs : left (step (State.reset.withFetchWord 8 0x7D)) (·.OUT) =
    some [0x7D] := by decide +kernel
theorem test_placed_reply_runs : left (step (State.reset.withFetchWord 16 0x8100)) (fun c => (c.STATUS, c.NOUT)) =
    some (0, 23) := by decide +kernel

/-! ## Witnesses: states and operands that meet every hypothesis of a statement together -/

theorem witness_StartClearsAllButTheRequest :
    let s := scheduled (.start 0) { Codec.reset with RESULT := 5, IN := [0x01] }
    s.script = .start 0 :: [] ∧ s.port = some 0 ∧ s.cur.BUSY = false ∧ s.cur.session.owesReply = false := by decide

theorem witness_DecodeOfEncodeIsIdentity :
    (Instr.unrecognized 3).wellFormed = true ∧ (Instr.unrecognized 3 = .escTrailing → [(0x55 : Byte)] = []) ∧
    Instr.escTrailing.wellFormed = true ∧ (Instr.escTrailing = .escTrailing → ([] : Bytes) = []) := by decide

theorem witness_EncodeOfDecodeIsIdentity : decode .esc [0x7D, 0x05, 0x09] = .ok (.escOther 0x05, [0x09]) := by decide

theorem witness_IssueStepRunsDecodedInstruction :
    let s := scheduled (.issue 0) { Codec.reset with OPSEL := 5 }
    s.script = .issue 0 :: [] ∧ State.select 0 { s with script := [] } = some { s with script := [] } ∧
    s.cur.BUSY = false ∧ s.cur.session.owesReply = false ∧ decode .opsel3 [opselByte s.cur.OPSEL] = .ok (.parse, []) := by
  refine ⟨rfl, rfl, rfl, rfl, by decide⟩

/-- Two connections, the second not served. -/
def twoConns (m : Move) : State :=
  { scheduled m Codec.reset with others := [(1, { Codec.reset with IN := [0x01] })] }

theorem witness_SerialStepRunsDecodedInstruction :
    let d := atDispatch 0x0102 []
    let e := scanning .sync 2 1 [0x7D, 0x02]
    let r := { State.reset with cur := { Codec.reset with BUSY := true, phase := .reply 0x8001 } }
    let w := { twoConns (.run 1) with
      others := [(1, { Codec.reset with BUSY := true, phase := .reply 0x8100 })] }
    (d.script = [] ∧ d.cur.BUSY = true ∧ d.cur.phase = .dispatch ∧
      decode .cmdid16 (bytes16 d.cur.H_CMD) = .ok (.auth2, [])) ∧
    (e.script = [] ∧ e.cur.BUSY = true ∧ e.cur.phase = .sync ∧ e.cur.FS_STATE = FS_ESC ∧
      decode .esc (0x7D :: e.cur.IN.drop e.cur.IN_POS) = .ok (.escFlag, [])) ∧
    (r.script = [] ∧ r.cur.BUSY = true ∧ r.cur.phase = .reply 0x8001 ∧
      decode .reply (bytes16 0x8001) = .ok (.reply8001, [])) ∧
    (w.script = .run 1 :: [] ∧
      (State.select 1 { w with script := [] }).map (fun t => (t.cur.BUSY, t.cur.phase)) =
        some (true, .reply 0x8100) ∧
      decode .reply (bytes16 0x8100) = .ok (.reply8100, [])) := by decide +kernel

theorem witness_Bcd2decResult :
    (ready 3 [0, 0, 0, 0, 0, 0x12]).cur.NIN ≤ 6 ∧ 6 < (ready 3 [0, 0, 0, 0, 0, 0, 0]).cur.NIN := by decide

theorem witness_Bcd2tsResult :
    (ready 4 [0x26, 0x11, 0x11, 0x20, 0x42, 0x05]).cur.IN = [0x26, 0x11, 0x11, 0x20, 0x42, 0x05] ∧
    (ready 4 [0x26]).cur.NIN ≠ 6 := by decide

theorem witness_Build8001Result :
    (ready 6 [1, 2, 3, 4, 5, 6, 7, 8, 9, 10]).cur.IN = [1, 2, 3, 4, 5, 6] ++ [7, 8] ++ [9, 10] ∧
    (ready 6 [1, 2, 3, 4, 5, 6, 7, 8, 9]).cur.NIN ≠ 10 := by decide

theorem witness_Build8100Result :
    (ready 7 [1, 2, 3, 4, 5, 6, 7, 8]).cur.IN = [1, 2, 3, 4, 5, 6] ++ [7, 8] ∧
    (ready 7 [1, 2, 3, 4, 5, 6, 7, 8, 9]).cur.NIN ≠ 8 := by decide

/-- P-0200's payload with its sequence bytes stuffed. -/
def reportPayload : Bytes :=
  [0x7E] ++ stuff ([0x02, 0x00, 0x00, 0x1C, 0x01, 0x38, 0x00, 0x13, 0x80, 0x00, 0x00, 0x7E] ++ reportBody ++ [0xB6]) ++
  [0x7E]

/-- A build whose queue holds `n` records. -/
def withDepth (n : Nat) (s : State) : State := { s with cfg := { s.cfg with RQ_DEPTH := some n } }

theorem witness_ParseMeetsReference :
    let s := withDepth 1 (ready 5 reportPayload)
    let z := withDepth 0 (ready 5 reportPayload)
    admits s.cfg.RQ_DEPTH (Reference.parse s.cur.IN).2.1.length = true ∧
    (Reference.parse s.cur.IN).2.1.length = 1 ∧
    admits z.cfg.RQ_DEPTH (Reference.parse z.cur.IN).2.1.length = false := by decide +kernel


theorem witness_ParseInternalRegisters :
    (∃ t, exec .parse (ready 5 heartbeatPayload) = .next t) ∧ (∃ t, exec .parse (ready 5 []) = .next t) :=
  ⟨next_of_runs (by decide +kernel), next_of_runs (by decide +kernel)⟩

theorem witness_InvalidFrameExactlyWithoutFlags :
    ¬ ((ready 5 []).cur.IN.head? = some 0x7E ∧ (ready 5 []).cur.IN.getLast? = some 0x7E) ∧
    ((ready 5 [0x7E]).cur.IN.head? = some 0x7E ∧ (ready 5 [0x7E]).cur.IN.getLast? = some 0x7E) ∧
    ∃ t, exec .parse (ready 5 [0x7E]) = .next t :=
  ⟨by decide, by decide, next_of_runs (by decide +kernel)⟩

theorem witness_ShortMessageMalformed :
    (ready 5 [0x7E]).cur.IN.head? = some 0x7E ∧ (ready 5 [0x7E]).cur.IN.getLast? = some 0x7E ∧
    (unstuff (ready 5 [0x7E]).cur.IN).length < 15 := by decide


theorem witness_LocReportResult :
    let s := withDepth 1 (atDispatch 0x0200 reportBody)
    15 + 28 = s.cur.NU ∧ admits s.cfg.RQ_DEPTH 1 = true ∧
    admits (withDepth 0 s).cfg.RQ_DEPTH 1 = false := by decide +kernel

theorem witness_LocReportFields :
    15 + 28 ≤ (atDispatch 0x0200 reportBody).cur.NU ∧
    ∃ t r, exec .locReport (atDispatch 0x0200 reportBody) = .next t ∧ t.cur.RQ = [r] :=
  ⟨by decide +kernel, ⟨_, _, rfl, rfl⟩⟩

theorem witness_BatchLocResult :
    let s := withDepth 1 (atDispatch 0x0704 ([0x00, 0x02, 0x01, 0x00, 0x1C] ++ reportBody))
    let z := atDispatch 0x0704 [0x00, 0x00]
    (15 ≤ s.cur.NU ∧ Reference.batchItems (slice s.cur.U 13 (s.cur.NU - 2)) = some [reportBody] ∧
      admits s.cfg.RQ_DEPTH 1 = true ∧ admits (withDepth 0 s).cfg.RQ_DEPTH 1 = false) ∧
    (15 ≤ z.cur.NU ∧ Reference.batchItems (slice z.cur.U 13 (z.cur.NU - 2)) = some []) := by decide +kernel

theorem witness_BatchReportCount :
    left (exec .batchLoc (atDispatch 0x0704 [0x00, 0x01, 0x01])) (·.STATUS) = some 0 := by decide +kernel

theorem witness_BadBodyMalformed :
    let s := atDispatch 0x0200 (reportBody.drop 1)
    let b := atDispatch 0x0704 [0x00]
    (15 ≤ s.cur.NU ∧ s.cur.NU < 15 + 28 ∧ s.cur.NU + 1 = 15 + 28) ∧
    (15 ≤ b.cur.NU ∧ Reference.batchItems (slice b.cur.U 13 (b.cur.NU - 2)) = none) := by decide +kernel

theorem witness_AcknowledgementResults :
    15 = (atDispatch 0x0100 []).cur.NU ∧ (atDispatch 0x0100 []).cur.RQ = [] := by decide +kernel

theorem witness_UnrecognizedResult : 15 ≤ (atDispatch 0x0003 []).cur.NU := by decide +kernel

theorem witness_ActionsOnShortMessageMalformed :
    (Instr.unrecognized 3).format = .cmdid16 ∧
    ({ Codec.reset with U := (messageWith [0x00, 0x03] []).drop 1 }).NU < 15 := by decide

theorem witness_DispatchIsExact : ∀ cmd : BitVec 16,
    (atDispatch cmd []).script = [] ∧ (atDispatch cmd []).cur.BUSY = true ∧
    (atDispatch cmd []).cur.phase = .dispatch ∧ (atDispatch cmd []).cur.H_CMD = cmd :=
  fun _ => ⟨rfl, rfl, rfl, rfl⟩

theorem witness_EscapeUnitResults :
    (scanning .sync 2 1 [0x7D]).cur.phase = .sync ∧ (scanning .unstuff 2 1 [0x7D]).cur.phase ≠ .sync := by
  decide +kernel

theorem witness_FrameSyncTable :
    ∀ p ∈ [((0 : BitVec 2), (0x7D : Byte)), (0, 0x7E), (0, 0x00), (1, 0x7D), (1, 0x7E), (2, 0x02), (2, 0x01), (2, 0x7D)],
      (scanning .sync p.1 1 [0x7E, p.2]).script = [] ∧ (scanning .sync p.1 1 [0x7E, p.2]).cur.BUSY = true ∧
      (scanning .sync p.1 1 [0x7E, p.2]).cur.phase = .sync ∧
      (scanning .sync p.1 1 [0x7E, p.2]).cur.IN[(scanning .sync p.1 1 [0x7E, p.2]).cur.IN_POS]? = some p.2 ∧
      (scanning .sync p.1 1 [0x7E, p.2]).cur.FS_STATE = p.1 ∧ p.1 ≠ 3 := by decide +kernel

theorem witness_SerialUnstuffTable :
    let s := scanning .unstuff 2 1 [0x7D, 0x02]
    s.script = [] ∧ s.cur.BUSY = true ∧ s.cur.phase = .unstuff ∧ s.cur.IN[s.cur.IN_POS]? = some 0x02 ∧
    s.cur.FS_STATE ≠ 3 := by decide +kernel


theorem witness_ReplyStepResults :
    (ready 6 [1, 2, 3, 4, 5, 6, 7, 8, 9, 10]).cur.IN = [1, 2, 3, 4, 5, 6] ++ [7, 8] ++ [9, 10] ∧
    (ready 7 [1, 2, 3, 4, 5, 6, 7, 8]).cur.IN = [1, 2, 3, 4, 5, 6] ++ [7, 8] ∧
    (ready 6 [1]).cur.NIN ≠ 10 ∧ (ready 7 [1]).cur.NIN ≠ 8 := by decide

theorem witness_SerialMachinesComputeFunctions : Codec.reset.OUT = [] ∧ Codec.reset.FS_STATE ≠ FS_ESC := by decide

theorem witness_UnstuffedFrameKeepsFlags :
    (∃ t, exec .parse (ready 5 [0x7E, 0x7D, 0x7E]) = .next t) ∧
    ([0x7E, 0x7D, 0x7E] : Bytes).head? = some 0x7E ∧ ([0x7E, 0x7D, 0x7E] : Bytes).getLast? = some 0x7E ∧
    2 ≤ ([0x7E, 0x7D, 0x7E] : Bytes).length ∧ ([0x7E, 0x7E] : Bytes).getLast? = some 0x7E :=
  ⟨next_of_runs (by decide +kernel), by decide⟩

theorem witness_SerialAccumulators :
    Codec.reset.CS_ACC = 0 ∧ Codec.reset.BCD_ACC = 0 ∧ ([0xFF, 0xFF, 0xFF, 0xFF, 0xFF, 0xFF] : Bytes).length ≤ 6 := by
  decide

theorem witness_BcdWidthLaw :
    Reference.validBcd [0x99, 0x12] ∧ ([0xFF, 0xFF, 0xFF, 0xFF, 0xFF, 0xFF] : Bytes).length ≤ 6 := by
  simp [Reference.validBcd]

theorem witness_ReplyFrameRecoversFields :
    ([0x7E, 0x7D, 0, 0, 0, 0] : Bytes).length = 6 ∧ ([0x7E, 0x7E] : Bytes).length = 2 ∧
    ([0x7D, 0x7D] : Bytes).length = 2 ∧ ([0x7E] : Bytes).length < 65536 := by decide

theorem witness_OwnRepliesUnrecognized :
    (ready 5 (build8100 [1, 2, 3, 4, 5, 6] [7, 8])).cur.IN = build8001 [1, 2, 3, 4, 5, 6] [7, 8] [9, 10] ∨
    (ready 5 (build8100 [1, 2, 3, 4, 5, 6] [7, 8])).cur.IN = build8100 [1, 2, 3, 4, 5, 6] [7, 8] := .inr rfl

theorem witness_ErrorsPublishNothing :
    Instr.bcd2dec.format ≠ .esc ∧
    left (exec .bcd2dec (ready 3 [0, 0, 0, 0, 0, 0, 0])) (·.STATUS) = some 4 := by decide +kernel

theorem witness_ReplyValidExactlyWhenParseOk :
    (∃ t, exec .parse (ready 5 heartbeatPayload) = .next t) ∧ (∃ t, exec .stuff (ready 1 []) = .next t) :=
  ⟨next_of_runs (by decide +kernel), next_of_runs (by decide +kernel)⟩

theorem witness_NothingSurvivesATransaction :
    let s := ready 5 heartbeatPayload
    let s' := { s with cur := { s.cur with RESULT := 9, U := [0x01], STATUS := 3 } }
    Instr.parse.format = .opsel3 ∧ s.cur.OPSEL = s'.cur.OPSEL ∧ s.cur.IN = s'.cur.IN ∧ s.cur ≠ s'.cur ∧
    (∃ t, exec .parse s = .next t) ∧ (∃ t, exec .parse s' = .next t) :=
  ⟨rfl, rfl, rfl, by decide +kernel, next_of_runs (by decide +kernel), next_of_runs (by decide +kernel)⟩

theorem witness_IgnoredHeaderBytesChangeNothing :
    let s := atDispatch 0x0102 [0x31]
    let V := s.cur.U.set 14 0x99
    V.length = s.cur.NU ∧ s.cur.NU = 16 ∧ V ≠ s.cur.U ∧ (∀ j < 16, j ≠ 14 → V[j]? = s.cur.U[j]?) ∧
    ∃ t, exec .auth2 s = .next t :=
  ⟨by decide +kernel, by decide +kernel, by decide +kernel, by decide +kernel, next_of_runs (by decide +kernel)⟩

theorem witness_UnreadReportBytesChangeNothing :
    let s := atDispatch 0x0200 (reportBody ++ [0xAA])
    let V := (s.cur.U.set 13 0x99).set 41 0x98
    V.length = s.cur.NU ∧ V ≠ s.cur.U ∧ (∀ j < 41, (j < 13 ∨ 21 ≤ j) → V[j]? = s.cur.U[j]?) ∧
    ∃ t, exec .locReport s = .next t :=
  ⟨by decide +kernel, by decide +kernel, by decide +kernel, next_of_runs (by decide +kernel)⟩

theorem witness_UnreadBatchBytesChangeNothing :
    let s := atDispatch 0x0704 [0x00, 0x01, 0x01, 0x55]
    let V := (s.cur.U.set 15 0x99).set 16 0x98
    V.length = s.cur.NU ∧ V ≠ s.cur.U ∧ (∀ j < 15, V[j]? = s.cur.U[j]?) ∧
    left (exec .batchLoc s) (fun c => (c.STATUS, c.B_POS)) = some (0, 3) := by decide +kernel

/-- A state that meets the invariant, away from reset: a request loaded, and a move to come. -/
def requested : State := scheduled (.start 0) { Codec.reset with OPSEL := 1, IN := [0x7E] }

theorem witness_StepKeepsInvariant : requested.Inv ∧ ∃ t, step requested = .next t :=
  ⟨{ instances := ⟨by constructor <;> simp [requested, scheduled, Codec.reset, FS_START, FS_ESC], by
        simp [requested, scheduled, State.reset]⟩
     canonical := by constructor <;> simp [requested, scheduled, State.reset] }, next_of_runs (by decide +kernel)⟩

theorem witness_NoFaultUnderInvariant : requested.Inv := witness_StepKeepsInvariant.1

theorem witness_StepKeepsInstancesOnTrack :
    let s := { State.reset with cur := Codec.begin .begin { Codec.reset with OPSEL := 5, IN := [0x7E] } }
    s.EveryConn Codec.OnTrack ∧ ∃ t, step s = .next t :=
  ⟨⟨rfl, by simp [State.reset]⟩, next_of_runs (by decide +kernel)⟩

theorem witness_SerialRunEqualsIssuedTransaction :
    let s := ready 5 heartbeatPayload
    s.port = some 0 ∧ s.cur.BUSY = false ∧ s.cur.session.owesReply = false ∧ ∃ t, step { s with script := [.issue 0] } = .next t :=
  ⟨rfl, rfl, rfl, next_of_runs (by decide +kernel)⟩

theorem witness_OtherInstancesUntouched :
    (twoConns (.openConn 2)).Canonical ∧ (twoConns (.openConn 2)).script = .openConn 2 :: [] ∧
    (∃ t, step (twoConns (.openConn 2)) = .next t) ∧ (1 : Nat) ≠ 2 :=
  ⟨by constructor <;> simp [twoConns, scheduled, State.reset], rfl, next_of_runs (by decide +kernel), by decide⟩

theorem witness_InstancesDoNotInteract :
    let s := scheduled (.run 0) Codec.reset
    let s' := { twoConns (.run 0) with events := [.closed 7], frees := 3 }
    s.script = .run 0 :: [] ∧ s'.script = .run 0 :: [] ∧ s.cfg = s'.cfg ∧ s.conn 0 = s'.conn 0 ∧
    ∃ t, step s = .next t := ⟨rfl, rfl, rfl, rfl, next_of_runs (by decide +kernel)⟩

/-- A host that owes these duties. -/
def owing (l : List Duty) : Codec := { Codec.reset with session := { inbound := [], owed := l } }

theorem witness_HostHasNoMoveWhileBusy :
    ∀ m ∈ [Move.load 0 1 [0x01], .issue 0, .start 0, .collect 0],
      let s := scheduled m { owing [.writeDiag] with BUSY := true, phase := .begin }
      s.script = m :: [] ∧ s.port = some 0 ∧ s.cur.BUSY = true ∧ s.cur.session.owed = [.writeDiag] := by
  decide +kernel

theorem witness_NextTransactionWaitsForCollect :
    let s := scheduled (.issue 0) (owing [.drop, .writeReply heartbeatReply])
    let z := scheduled (.start 0) (owing [.writeDiag, .drop])
    (s.script = .issue 0 :: [] ∧ s.port = some 0 ∧ s.cur.BUSY = false ∧
      Duty.writeReply heartbeatReply ∈ s.cur.session.owed) ∧
    (z.script = .start 0 :: [] ∧ z.port = some 0 ∧ z.cur.BUSY = false ∧
      z.cur.session.owed.any Duty.isReply = false) := by decide +kernel

theorem witness_CollectDoesTheHostsDuty :
    (left (exec .parse (ready 5 heartbeatPayload)) (·.STATUS) = some 0 ∧
      left (exec .parse (ready 5 [])) (·.STATUS) = some 1 ∧
      left (exec .parse (ready 5 (build8100 [1, 2, 3, 4, 5, 6] [7, 8]))) (·.STATUS) = some 2 ∧
      left (exec .parse (ready 5 [0x7E])) (·.STATUS) = some 3) ∧
    ∀ l ∈ [[], [Duty.writeReply [0x7E]], [.writeDiag, .drop], [.drop], [.publish (reportAt [] 0 0)]],
      let s := scheduled (.collect 0) (owing l)
      s.script = .collect 0 :: [] ∧ s.port = some 0 ∧ s.cur.session.owed = l := by decide +kernel

/-- A build that holds two bytes, and a connection with one payload delivered. -/
def delivered (m : Move) : State :=
  { scheduled m { Codec.reset with session := { inbound := [[0x7E, 0x7E]], owed := [] } } with
    cfg := { MAX_PAYLOAD_LEN := some 2, N_INSTANCES := none, RQ_DEPTH := none } }

theorem witness_LoadWritesTheRequest :
    let s := delivered (.load 0 5 [0x7E, 0x7E])
    s.script = .load 0 5 [0x7E, 0x7E] :: [] ∧ s.port = some 0 ∧ s.cur.BUSY = false ∧
    admits s.cfg.MAX_PAYLOAD_LEN 2 = true ∧ admits s.cfg.MAX_PAYLOAD_LEN 3 = false ∧
    s.cur.session.inbound = [0x7E, 0x7E] :: [] ∧ wholeFrame [0x7E, 0x7E] = true ∧
    s.cur.session.inbound.head? ≠ some [0x7E] ∧ Codec.reset.session.inbound.head? ≠ some [] := by decide +kernel

/-! ## The host -/

-- R271 "takes the next transaction normally", 95_test_vectors.md Program 3: an error leaves the instance usable
theorem test_issue_after_an_error :
    left (step (scheduled (.issue 0) { owing [.writeDiag, .drop] with OPSEL := 2, IN := [0x5A] })) (·.RESULT) =
    some 0x5A := by decide +kernel
-- R63: the reports of a PARSE, then its reply, are owed
theorem test_parse_owes_reports_then_reply :
    left (exec .parse (ready 5 reportPayload)) (fun c => c.session.owed.map Duty.isReply) = some [false, true] := by
  decide +kernel
-- R27: a payload no request can hold is not delivered (log 27)
theorem test_overlong_payload_is_not_delivered :
    step (delivered (.arrive 0 [0x7E, 0x00, 0x7E])) = .refused .payloadTooLong := rfl
-- R305: a payload that was not delivered is not passed to PARSE
theorem test_undelivered_payload_is_refused :
    step (delivered (.load 0 5 [0x7E])) = .refused .payloadNotDelivered := rfl

theorem witness_ConnectionsOpenAndClose :
    (twoConns (.openConn 2)).Canonical ∧ (twoConns (.openConn 2)).conn 2 = none ∧
    (twoConns (.openConn 2)).cfg.N_INSTANCES = none ∧
    (twoConns (.closeConn 1)).Canonical ∧ (twoConns (.closeConn 1)).conn 1 ≠ none :=
  ⟨by constructor <;> simp [twoConns, scheduled, State.reset], rfl, rfl,
   by constructor <;> simp [twoConns, scheduled, State.reset], by decide +kernel⟩


end Sys2Proof.Tests
end

section
/-! SUPPORT. Report records are legal (10_state.md R29, R30): what the fields `reportAt` assembles are in terms of
the raw bytes, and their ranges. -/

namespace Sys2Proof.Machine

theorem bcdPair_le (b : Byte) : bcdPair b ≤ 165 := by
  have hi := (b.extractLsb' 4 4).isLt
  have lo := (b.extractLsb' 0 4).isLt
  unfold bcdPair
  omega

@[simp] theorem bcdToDecimal_single (b : Byte) : bcdToDecimal [b] = bcdPair b := by
  simp [bcdToDecimal]

/-- R103: the year is not truncated by its register. -/
theorem bcdYear_toNat (b : Byte) : (bcdYear b).toNat = 2000 + bcdPair b := by
  have := bcdPair_le b
  rw [bcdYear, bcdToDecimal_single, YEAR_BASE, BitVec.toNat_ofNat]
  omega

/-- R103: nor is any other component. -/
theorem bcdField_toNat (b : Byte) : (bcdField b).toNat = bcdPair b := by
  have := bcdPair_le b
  rw [bcdField, bcdToDecimal_single, BitVec.toNat_ofNat]
  omega

/-- R102: six bytes fit 41 bits, whatever their nibbles. -/
theorem bcdToDecimal_bytes48_lt (w : BitVec 48) : bcdToDecimal (bytes48 w) < 2 ^ 41 := by
  have pair := bcdPair_le
  simp only [bcdToDecimal, bytes48, List.foldl_cons, List.foldl_nil]
  have h0 := pair (w.extractLsb' 40 8)
  have h1 := pair (w.extractLsb' 32 8)
  have h2 := pair (w.extractLsb' 24 8)
  have h3 := pair (w.extractLsb' 16 8)
  have h4 := pair (w.extractLsb' 8 8)
  have h5 := pair (w.extractLsb' 0 8)
  omega

/-- R54: no byte of an opaque field is lost in its register. -/
theorem bytes48_be48 (B : Bytes) (a : Nat) :
    bytes48 (be48 B a) =
      [byteAt B a, byteAt B (a + 1), byteAt B (a + 2), byteAt B (a + 3), byteAt B (a + 4), byteAt B (a + 5)] := by
  simp only [bytes48, be48, be32, be16, List.cons.injEq, and_true]
  refine ⟨?_, ?_, ?_, ?_, ?_, ?_⟩ <;>
  · ext i hi
    simp only [BitVec.getElem_extractLsb', BitVec.getLsbD_append]
    grind

/-- Every record the report parser makes is legal (R213, R214). -/
theorem reportAt_legal (U : Bytes) (dev : BitVec 48) (base : Nat) : (reportAt U dev base).Legal := by
  have pair := bcdPair_le
  have dev48 := bcdToDecimal_bytes48_lt dev
  have device : (reportAt U dev base).DEV_DEC.toNat = bcdToDecimal (bytes48 dev) := by
    rw [reportAt, BitVec.toNat_ofNat]
    omega
  constructor
  case voltage => rfl
  case device => exact device
  case deviceRange => exact device ▸ dev48
  case yearRange =>
    have := pair (byteAt U (base + 22))
    simp only [reportAt, bcdYear_toNat]
    omega
  case fieldRange => simp only [reportAt, bcdField_toNat, pair, and_self]
  all_goals
    simp only [reportAt, bytes48_be48, bcdYear_toNat, bcdField_toNat]
    rfl

end Sys2Proof.Machine
end

section
/-! SUPPORT. A transaction between its start and its end: what the serial machines keep true of every register the
invariant speaks of, and what each end makes of it. `x` is the host's side, which no machine moves (log 25). -/

namespace Sys2Proof.Machine

/-- A running transaction: the scan registers are legal and no result is written yet (R301). The phase is left
open, so that it speaks of both grains (log 2). -/
structure Codec.Live (x : Session) (c : Codec) : Prop where
  running : c.BUSY = true
  fsLegal : c.FS_STATE ≠ 3
  fsStart : c.FS_STATE = FS_START ↔ c.IN_POS = 0
  cursor : c.IN_POS ≤ c.NIN
  noReports : c.RQ = []
  noReply : c.REPLY_VALID = false
  status : c.STATUS = 0
  result : c.RESULT = 0
  session : c.session = x

/-- A running transaction that may end: no escape is pending (R126). -/
structure Codec.Settled (x : Session) (c : Codec) : Prop extends Codec.Live x c where
  notPending : c.FS_STATE ≠ FS_ESC

/-- A transaction ended without a report or a reply (R25, R271). -/
structure Codec.Done (x : Session) (c : Codec) : Prop where
  idle : c.BUSY = false
  phase : c.phase = .idle
  status : c.STATUS.toNat ≤ 4
  fsLegal : c.FS_STATE ≠ 3
  fsStart : c.FS_STATE = FS_START ↔ c.IN_POS = 0
  notPending : c.FS_STATE ≠ FS_ESC
  noReports : c.RQ = []
  noReply : c.REPLY_VALID = false
  session : c.session = x

theorem Status.code_le (st : Status) : st.code.toNat ≤ 4 := by cases st <;> decide

/-! ## The start -/

theorem Codec.begin_settled (ph : Phase) (c : Codec) : (c.begin ph).Settled c.session where
  running := rfl
  fsLegal := show (0 : BitVec 2) ≠ 3 by decide
  fsStart := iff_of_true rfl rfl
  cursor := Nat.zero_le _
  noReports := rfl
  noReply := rfl
  status := rfl
  result := rfl
  session := rfl
  notPending := show FS_START ≠ FS_ESC by decide

/-! ## The serial machines -/

section
variable {x : Session} {c : Codec}

theorem Codec.Settled.stuffByte (h : c.Settled x) (b : Byte) : (c.stuffByte b).Settled x := { h with }

theorem Codec.Settled.checksumByte (h : c.Settled x) (b : Byte) : (c.checksumByte b).Settled x := { h with }

theorem Codec.Settled.bcdByte (h : c.Settled x) (b : Byte) : (c.bcdByte b).Settled x := { h with }

/-- The frame of one date-time byte. -/
theorem Codec.tsByte_frame (i : Nat) (b : Byte) (c : Codec) :
    c.tsByte i b = { c with
      TS_Y := (c.tsByte i b).TS_Y, TS_MO := (c.tsByte i b).TS_MO, TS_D := (c.tsByte i b).TS_D
      TS_H := (c.tsByte i b).TS_H, TS_MI := (c.tsByte i b).TS_MI, TS_S := (c.tsByte i b).TS_S } := by
  unfold Codec.tsByte
  split <;> rfl

theorem State.tsStep_settled {s : State} (h : s.cur.Settled x) (i : Nat) : (s.tsStep i).cur.Settled x := by
  unfold State.tsStep
  rw [Codec.tsByte_frame]
  exact { h with }

/-- The frame of the steps of BCD2TS: the served codec and the draw counter. -/
theorem State.tsFold_frame (l : List Nat) (s : State) :
    l.foldl State.tsStep s =
      { s with cur := (l.foldl State.tsStep s).cur, frees := (l.foldl State.tsStep s).frees } := by
  induction l generalizing s with
  | nil => rfl
  | cons i rest ih => exact ih (s.tsStep i)

theorem State.tsFold_settled {s : State} (h : s.cur.Settled x) (l : List Nat) :
    (l.foldl State.tsStep s).cur.Settled x :=
  List.foldlRecOn (motive := fun t => t.cur.Settled x) l State.tsStep h fun _ ht i _ => State.tsStep_settled ht i

/-- R31, R171: no byte leaves FS_STATE at 3, nor at FS_START. -/
theorem Codec.syncByte_FS_legal (sync : Bool) (c : Codec) (b : Byte) :
    (c.syncByte sync b).FS_STATE ≠ 3 ∧ (c.syncByte sync b).FS_STATE ≠ FS_START := by
  rw [Codec.syncByte_FS_STATE]
  split <;> decide

/-- R171: a byte that lies in IN leaves the machine legal, and past FS_START. -/
theorem Codec.Live.syncByte (h : c.Live x) (hpos : c.IN_POS < c.NIN) (sync : Bool) (b : Byte) :
    (c.syncByte sync b).Live x := by
  obtain ⟨legal, past⟩ := Codec.syncByte_FS_legal sync c b
  rw [Codec.syncByte_frame]
  exact { h with
    fsLegal := legal
    fsStart := iff_of_false past (Nat.succ_ne_zero _)
    cursor := hpos }

theorem Codec.syncByte_IN (sync : Bool) (c : Codec) (b : Byte) : (c.syncByte sync b).IN = c.IN := by
  rw [Codec.syncByte_frame]

theorem Codec.syncByte_NIN (sync : Bool) (c : Codec) (b : Byte) : (c.syncByte sync b).NIN = c.NIN :=
  congrArg List.length (Codec.syncByte_IN sync c b)

theorem Codec.syncByte_IN_POS (sync : Bool) (c : Codec) (b : Byte) :
    (c.syncByte sync b).IN_POS = c.IN_POS + 1 := by
  rw [Codec.syncByte_frame]

theorem Codec.Live.foldl_syncByte (h : c.Live x) (sync : Bool) (B : Bytes) (hpos : c.IN_POS + B.length ≤ c.NIN) :
    (B.foldl (Codec.syncByte sync) c).Live x := by
  induction B generalizing c with
  | nil => exact h
  | cons b rest ih =>
    rw [List.length_cons] at hpos
    refine ih (h.syncByte (by omega) sync b) ?_
    rw [Codec.syncByte_NIN, Codec.syncByte_IN_POS]
    omega

/-- R126: the finish clears a pending escape. -/
theorem Codec.Live.finishSync (h : c.Live x) (sync : Bool) : (c.finishSync sync).Settled x := by
  unfold Codec.finishSync
  split
  · rename_i hesc
    have past : c.IN_POS ≠ 0 := fun h0 => absurd (hesc.symm.trans (h.fsStart.2 h0)) (by decide)
    exact { h with
      fsLegal := show FS_DATA ≠ 3 by decide
      fsStart := iff_of_false (show FS_DATA ≠ FS_START by decide) past
      notPending := show FS_DATA ≠ FS_ESC by decide }
  · exact { h with notPending := ‹_› }

theorem Codec.syncAll_settled (sync : Bool) (ph : Phase) (c : Codec) :
    ((c.begin ph).syncAll sync).Settled c.session :=
  ((c.begin_settled ph).foldl_syncByte sync c.IN (Nat.zero_add _).le).finishSync sync

end

/-! ## The ends -/

section
variable {x : Session} {c : Codec}

theorem Codec.Settled.complete (h : c.Settled x) : (c.complete .ok).Done x :=
  { h with idle := rfl, phase := rfl, status := Status.code_le .ok }

theorem Codec.Settled.raise (h : c.Settled x) (st : Status) : (c.raise st).Done x :=
  { h with idle := rfl, phase := rfl, status := Status.code_le st, noReports := rfl, noReply := rfl }

theorem Codec.Settled.checksumDone (h : c.Settled x) : c.checksumDone.Done x := { h.complete with }

theorem Codec.Settled.bcdDone (h : c.Settled x) : c.bcdDone.Done x := { h.complete with }

theorem Codec.Settled.build8001Op (h : c.Settled x) : c.build8001Op.Done x := by
  unfold Codec.build8001Op
  split
  · exact h.raise _
  · exact { h.complete with }

theorem Codec.Settled.build8100Op (h : c.Settled x) : c.build8100Op.Done x := by
  unfold Codec.build8100Op
  split
  · exact h.raise _
  · exact { h.complete with }

/-- The accumulators a composite operation leaves unspecified (R35) are none the ends speak of. -/
theorem Codec.Done.withAcc (h : c.Done x) (cs : Byte) (bcd : BitVec 48) :
    ({ c with CS_ACC := cs, BCD_ACC := bcd } : Codec).Done x := { h with }

end

/-! ## The dispatch actions -/

/-- The codec with the registers a report action may write before its end. -/
def Codec.withBatch (c : Codec) (Q : List Report) (count iter : BitVec 16) (pos : Nat) : Codec :=
  { c with RQ := Q, B_COUNT := count, B_ITER := iter, B_POS := pos }

/-- Everything a dispatch action can make of the codec: it raises MALFORMED or UNRECOGNIZED_COMMAND, or it
answers with the reports that stood in RQ or with legal ones of its own, at most 65534 (R30). -/
inductive Codec.Acted (c : Codec) : Codec → Prop where
  | raised {st : Status} (hst : st = .malformed ∨ st = .unrecognizedCommand) (count iter : BitVec 16) (pos : Nat) :
      c.Acted ((c.withBatch c.RQ count iter pos).raise st)
  | answered (frame : Bytes) {Q : List Report} (count iter : BitVec 16) (pos : Nat)
      (hQ : Q = c.RQ ∨ Q.length ≤ 65534 ∧ ∀ r ∈ Q, r.Legal) :
      c.Acted ((c.withBatch Q count iter pos).answer frame)

/-- The two statuses an action raises are neither OK nor INVALID_FRAME. -/
theorem Status.code_of_action {st : Status} (hst : st = .malformed ∨ st = .unrecognizedCommand) :
    st.code ≠ 0 ∧ st.code ≠ 1 := by
  rcases hst with rfl | rfl <;> decide

theorem Codec.acted_raise (c : Codec) {st : Status} (hst : st = .malformed ∨ st = .unrecognizedCommand) :
    c.Acted (c.raise st) := .raised hst c.B_COUNT c.B_ITER c.B_POS

theorem Codec.acted_answer (c : Codec) (frame : Bytes) : c.Acted (c.answer frame) :=
  .answered frame c.B_COUNT c.B_ITER c.B_POS (.inl rfl)

/-- R174: the length check in front of an action is itself MALFORMED. -/
theorem Codec.checked_acted {c action : Codec} (h : c.Acted action) : c.Acted (c.checked action) := by
  unfold Codec.checked
  split
  · exact c.acted_raise (.inl rfl)
  · exact h

theorem Codec.locReport_acted (c : Codec) : c.Acted c.locReport := by
  refine Codec.checked_acted ?_
  split
  · exact c.acted_raise (.inl rfl)
  · rename_i r hr
    obtain ⟨-, rfl⟩ := Codec.singleReport_eq_some.1 hr
    refine .answered _ c.B_COUNT c.B_ITER c.B_POS (.inr ⟨by simp, fun r hr => ?_⟩)
    rw [List.mem_singleton.1 hr]
    exact reportAt_legal ..

/-- R213, R220: the walker appends legal records. -/
theorem Codec.walk_legal (n : Nat) (c : Codec) (h : ∀ r ∈ c.RQ, r.Legal) : ∀ r ∈ (c.walk n).1.RQ, r.Legal := by
  induction n generalizing c with
  | zero => exact h
  | succ n ih =>
    cases hi : c.walkItem with
    | none => rwa [Codec.walk_of_raise hi]
    | some d =>
      rw [Codec.walk_of_item hi]
      obtain ⟨-, -, rfl⟩ := Codec.walkItem_eq_some hi
      refine ih _ fun r hr => ?_
      rcases List.mem_append.1 hr with hr | hr
      · exact h r hr
      · rw [List.mem_singleton.1 hr]
        exact reportAt_legal ..

/-- R222: from the walker's start there are at most 65534 iterations. -/
theorem Codec.walkStart_walk_length (c : Codec) :
    (c.walkStart.walk (c.walkStart.B_COUNT.toNat - 1)).1.RQ.length ≤ 65534 := by
  have count := c.walkStart.B_COUNT.isLt
  have len := (Codec.walk_length (c.walkStart.B_COUNT.toNat - 1) c.walkStart).1
  rw [Codec.walkStart_RQ, List.length_nil] at len
  omega

/-- The frame of the walker from its start: only the registers of a batch move. -/
theorem Codec.walkStart_walk_frame (n : Nat) (c : Codec) :
    (c.walkStart.walk n).1 =
      c.withBatch (c.walkStart.walk n).1.RQ (be16 c.U HDR_END) (c.walkStart.walk n).1.B_ITER
        (c.walkStart.walk n).1.B_POS :=
  Codec.walk_frame n c.walkStart

theorem Codec.batchLoc_acted (c : Codec) : c.Acted c.batchLoc := by
  refine Codec.checked_acted ?_
  split
  · exact c.acted_raise (.inl rfl)
  · have frame := c.walkStart_walk_frame (c.walkStart.B_COUNT.toNat - 1)
    have legal := Codec.walk_legal (c.walkStart.B_COUNT.toNat - 1) c.walkStart (by simp)
    have len := c.walkStart_walk_length
    dsimp only
    split
    · rename_i d hd
      simp only [hd] at frame
      rw [frame]
      exact .raised (.inl rfl) ..
    · rename_i d hd
      simp only [hd] at frame legal len
      rw [frame]
      exact .answered _ _ _ _ (.inr ⟨len, legal⟩)

theorem Codec.registerAck_acted (c : Codec) : c.Acted c.registerAck := Codec.checked_acted (c.acted_answer _)

theorem Codec.generalAck_acted (c : Codec) : c.Acted c.generalAck := Codec.checked_acted (c.acted_answer _)

theorem Codec.ignore_acted (c : Codec) : c.Acted c.ignore := Codec.checked_acted (c.acted_raise (.inr rfl))

theorem Codec.dispatch_acted (c : Codec) : c.Acted c.dispatch := by
  unfold Codec.dispatch
  split_ifs
  · exact c.locReport_acted
  · exact c.batchLoc_acted
  · exact c.registerAck_acted
  · exact c.generalAck_acted
  · exact c.generalAck_acted
  · exact c.ignore_acted

end Sys2Proof.Machine
end

section
/-! SUPPORT. What each instruction answers, once for all the operations and once for all the dispatch actions
(R80, R79), and how the decoders read the words the machine itself holds. -/

namespace Sys2Proof.Machine

theorem bytes16_append (w : BitVec 16) : w.extractLsb' 8 8 ++ w.extractLsb' 0 8 = w := by
  rw [BitVec.extractLsb'_append_extractLsb'_eq_extractLsb' (by omega)]
  simp

theorem decode_opselByte (op : BitVec 3) : decode .opsel3 [opselByte op] = .ok (decodeOpsel op, []) := by
  revert op
  decide

theorem decode_cmdid16_bytes16 (cmd : BitVec 16) : decode .cmdid16 (bytes16 cmd) = .ok (decodeCommand cmd, []) := by
  rw [bytes16, decode, bytes16_append]

theorem decodeOpsel_format (op : BitVec 3) : (decodeOpsel op).format = .opsel3 := by
  revert op
  decide

theorem decodeCommand_format (cmd : BitVec 16) : (decodeCommand cmd).format = .cmdid16 := by
  unfold decodeCommand
  split_ifs <;> rfl

/-- An escape unit with its partner is one byte step of the machine that has the escape pending (R77, R171). -/
theorem State.execDecoded_esc_partner {s : State} (h : s.cur.FS_STATE = FS_ESC) (b : Byte) (rest : Bytes) :
    s.execDecoded .esc (ESC :: b :: rest) = s.put (s.cur.syncByte s.cur.syncing b) := by
  unfold Codec.syncByte
  rw [State.execDecoded_ok (i := decodePartner b) (more := rest) (by simp [decode]), if_pos h]
  unfold decodePartner Codec.partnerByte
  split
  · rename_i hb
    rw [hb]
    rfl
  · split
    · rename_i hb
      rw [hb]
      rfl
    · rfl

/-- A lone 0x7D at the end is the machine's finish (R121, R126). -/
theorem State.execDecoded_esc_trailing {s : State} (h : s.cur.FS_STATE = FS_ESC) :
    s.execDecoded .esc [ESC] = s.put (s.cur.finishSync s.cur.syncing) := by
  unfold Codec.finishSync
  rw [State.execDecoded_ok (i := .escTrailing) (more := []) (by simp [decode]), if_pos h]
  rfl

/-! ## One byte step of either grain -/

/-- R126, R171: with a byte left, the step is the machine's, an escape pending or not. -/
theorem State.runSync_byte {s : State} {sync : Bool} (hs : s.cur.syncing = sync) (h3 : s.cur.FS_STATE ≠ 3)
    (hpos : s.cur.IN_POS < s.cur.NIN) :
    s.runSync sync = s.put (s.cur.syncByte sync (byteAt s.cur.IN s.cur.IN_POS)) := by
  unfold State.runSync
  split
  · rename_i hesc
    rw [Codec.escapeBytes, List.drop_eq_getElem_cons hpos, State.execDecoded_esc_partner hesc, hs,
      byteAt_of_lt hpos]
  · rename_i hesc
    rw [State.syncStep, if_neg h3, if_pos hpos, Codec.syncByte, if_neg hesc]

/-- R126: at the end of the bytes a pending escape is finished first. -/
theorem State.runSync_finish {s : State} {sync : Bool} (hs : s.cur.syncing = sync)
    (hpos : s.cur.NIN ≤ s.cur.IN_POS) (hesc : s.cur.FS_STATE = FS_ESC) :
    s.runSync sync = s.put (s.cur.finishSync sync) := by
  rw [State.runSync, if_pos hesc, Codec.escapeBytes, List.drop_eq_nil_of_le hpos,
    State.execDecoded_esc_trailing hesc, hs]

/-- R126, R172: at the end of the bytes with no escape pending, UNSTUFF completes and PARSE checks its header. -/
theorem State.runSync_end {s : State} {sync : Bool} (h3 : s.cur.FS_STATE ≠ 3) (hpos : s.cur.NIN ≤ s.cur.IN_POS)
    (hesc : s.cur.FS_STATE ≠ FS_ESC) :
    s.runSync sync = if sync then s.headerStep else s.put (s.cur.complete .ok) := by
  rw [State.runSync, if_neg hesc, State.syncStep, if_neg h3, if_neg (by omega)]

/-! ## The instructions -/

/-- Every operation but PARSE ends without a report or a reply, and moves nothing but the served codec and the draw
counter. -/
theorem exec_operation {i : Instr} (hi : i.format = .opsel3) (hp : i ≠ .parse) (s : State) :
    ∃ c n, exec i s = .next { s with cur := c, frees := n } ∧ c.Done s.cur.session := by
  have start := fun ph => s.cur.begin_settled ph
  cases i with
  | unstuff => exact ⟨_, _, rfl, (Codec.syncAll_settled false .unstuff s.cur).complete⟩
  | stuff =>
    exact ⟨_, _, rfl, (List.foldlRecOn s.cur.IN Codec.stuffByte (start (.stuff 0))
      fun _ h b _ => h.stuffByte b).complete⟩
  | checksum =>
    exact ⟨_, _, rfl, (List.foldlRecOn s.cur.IN Codec.checksumByte (start (.checksum 0))
      fun _ h b _ => h.checksumByte b).checksumDone⟩
  | bcd2dec =>
    simp only [exec, execBcd2dec]
    split
    · exact ⟨_, _, rfl, (start _).raise _⟩
    · exact ⟨_, _, rfl, (List.foldlRecOn s.cur.IN Codec.bcdByte (start (.bcd2dec 0))
        fun _ h b _ => h.bcdByte b).bcdDone⟩
  | bcd2ts =>
    simp only [exec, execBcd2ts]
    split
    · exact ⟨_, _, rfl, ((start _).raise _).withAcc _ _⟩
    · have settled := State.tsFold_settled (s := { s with cur := s.cur.begin (.bcd2ts 0) }) (start _) (List.range 6)
      rw [State.tsFold_frame]
      exact ⟨_, _, rfl, settled.complete.withAcc _ _⟩
  | build8001 => exact ⟨_, _, rfl, (start _).build8001Op.withAcc _ _⟩
  | build8100 => exact ⟨_, _, rfl, (start _).build8100Op.withAcc _ _⟩
  | parse => exact absurd rfl hp
  | _ => cases hi

/-- Every dispatch action is the end of a PARSE with what the action made of the served codec. -/
theorem exec_action {i : Instr} (hi : i.format = .cmdid16) (s : State) :
    ∃ e, exec i s = s.putParse e ∧ s.cur.Acted e := by
  cases i with
  | locReport => exact ⟨_, rfl, s.cur.locReport_acted⟩
  | batchLoc => exact ⟨_, rfl, s.cur.batchLoc_acted⟩
  | register => exact ⟨_, rfl, s.cur.registerAck_acted⟩
  | heartbeat => exact ⟨_, rfl, s.cur.generalAck_acted⟩
  | auth2 => exact ⟨_, rfl, s.cur.generalAck_acted⟩
  | unrecognized cmd => exact ⟨_, rfl, s.cur.ignore_acted⟩
  | _ => cases hi

/-- The end of the frame sync: INVALID_FRAME, or MALFORMED, or the header loaded for an action (R172 to R175). -/
theorem Codec.Settled.loadHeader {x : Session} {c : Codec} (h : c.Settled x) :
    (c.frameValid = false ∧ c.loadHeader = .error .invalidFrame) ∨
    (c.frameValid = true ∧ c.loadHeader = .error .malformed) ∨
    ∃ d : Codec, c.frameValid = true ∧ c.loadHeader = .ok d ∧ d.Settled x ∧ d.phase = .dispatch ∧ NU_MIN ≤ d.NU := by
  rcases c.loadHeader_cases with ⟨hf, hl⟩ | ⟨hf, -, hl⟩ | ⟨hf, hn, hl⟩
  · exact .inl ⟨hf, hl⟩
  · exact .inr (.inl ⟨hf, hl⟩)
  · exact .inr (.inr ⟨_, hf, hl, { h with }, rfl, hn⟩)

/-- Everything PARSE can end with: INVALID_FRAME for what is no frame, or what an action, the length check in front
of it included, makes of a running codec. -/
theorem exec_parse (s : State) :
    let c := (s.cur.begin .sync).syncAll true
    (c.frameValid = false ∧ exec .parse s = s.putParse (c.raise .invalidFrame)) ∨
    ∃ d e : Codec, c.frameValid = true ∧ exec .parse s = s.putParse e ∧ d.Settled s.cur.session ∧ d.Acted e := by
  intro c
  have settled : c.Settled s.cur.session := Codec.syncAll_settled true .sync s.cur
  rcases settled.loadHeader with ⟨hf, hl⟩ | ⟨hf, hl⟩ | ⟨d, hf, hl, hd, -, -⟩
  · exact .inl ⟨hf, by simp only [exec, execParse]; rw [hl]⟩
  · exact .inr ⟨c, _, hf, by simp only [exec, execParse]; rw [hl], settled, c.acted_raise (.inl rfl)⟩
  · exact .inr ⟨d, _, hf, by simp only [exec, execParse]; rw [hl], hd, d.dispatch_acted⟩

/-! ## REPLY_VALID and STATUS after a PARSE -/

/-- What the end of a PARSE writes back keeps the registers of the result. -/
theorem State.putParse_next {s t : State} {c : Codec} (h : s.putParse c = .next t) :
    t.cur.REPLY_VALID = c.REPLY_VALID ∧ t.cur.STATUS = c.STATUS := by
  rcases s.putParse_cases c with ⟨-, hc⟩ | ⟨-, hc⟩ <;> rw [hc] at h
  · obtain rfl := Host.Outcome.next.inj h
    exact ⟨rfl, rfl⟩
  · cases h

/-- R28, R177: an action leaves a reply exactly with STATUS OK. -/
theorem Codec.Acted.replyValid_iff {c e : Codec} (h : c.Acted e) : e.REPLY_VALID = true ↔ e.STATUS = 0 := by
  cases h with
  | raised hst => exact iff_of_false Bool.false_ne_true (Status.code_of_action hst).1
  | answered frame => exact iff_of_true rfl rfl

/-- R172: an action never raises INVALID_FRAME. -/
theorem Codec.Acted.status_ne {c e : Codec} (h : c.Acted e) : e.STATUS ≠ 1 := by
  cases h with
  | raised hst => exact (Status.code_of_action hst).2
  | answered frame => exact show (0 : BitVec 3) ≠ 1 by decide

theorem exec_parse_replyValid_iff {s t : State} (h : exec .parse s = .next t) :
    t.cur.REPLY_VALID = true ↔ t.cur.STATUS = 0 := by
  rcases exec_parse s with ⟨-, he⟩ | ⟨d, e, -, he, -, hact⟩
  · obtain ⟨hr, hst⟩ := State.putParse_next (he ▸ h)
    rw [hr, hst]
    exact iff_of_false Bool.false_ne_true (show (1 : BitVec 3) ≠ 0 by decide)
  · obtain ⟨hr, hst⟩ := State.putParse_next (he ▸ h)
    rw [hr, hst]
    exact hact.replyValid_iff

end Sys2Proof.Machine
end

section
/-! SUPPORT. The invariant of one codec: the host's side it asks for, what a running transaction must add to
`Codec.Live` to meet it, and that every end meets it. -/

namespace Sys2Proof.Machine

/-! ## The host's side -/

/-- What the invariant asks of the host's side at any time (R63, R279). -/
structure Session.Fit (x : Session) : Prop where
  replyLast : ∀ d ∈ x.owed.dropLast, d.isReply = false
  legal : ∀ r, Duty.publish r ∈ x.owed → r.Legal

/-- What it asks while a transaction runs or is issued: no reply is owed (R307). -/
structure Session.Ready (x : Session) : Prop where
  noReply : x.owesReply = false
  legal : ∀ r, Duty.publish r ∈ x.owed → r.Legal

theorem Session.Ready.not_isReply {x : Session} (h : x.Ready) : ∀ d ∈ x.owed, d.isReply = false := by
  simpa [Session.owesReply] using h.noReply

theorem Session.Ready.fit {x : Session} (h : x.Ready) : x.Fit where
  replyLast d hd := h.not_isReply d (List.dropLast_subset _ hd)
  legal := h.legal

/-- Only records of RQ are owed to be published. -/
theorem Codec.mem_RQ_of_duty {c : Codec} {r : Report} (h : Duty.publish r ∈ c.duties) : r ∈ c.RQ := by
  unfold Codec.duties at h
  split_ifs at h
  · simpa using h
  all_goals simp at h

/-- R63: the reply is the last duty for a PARSE. -/
theorem Codec.duties_replyLast (c : Codec) : ∀ d ∈ c.duties.dropLast, d.isReply = false := by
  unfold Codec.duties
  split_ifs
  · rw [List.dropLast_concat]
    intro d hd
    obtain ⟨r, -, rfl⟩ := List.mem_map.1 hd
    rfl
  all_goals exact fun _ h => absurd h List.not_mem_nil

/-- Owing the duties for a result keeps the host's side fit, where no reply was owed before. -/
theorem Session.Ready.owe_duties {x : Session} (h : x.Ready) {c : Codec} (hc : ∀ r ∈ c.RQ, r.Legal) :
    (x.owe c.duties).Fit where
  replyLast d hd := by
    rw [Session.owe_owed, List.dropLast_append] at hd
    split at hd
    · exact h.not_isReply d (List.dropLast_subset _ hd)
    · exact (List.mem_append.1 hd).elim (h.not_isReply d) (c.duties_replyLast d)
  legal r hr := (List.mem_append.1 hr).elim (h.legal r) fun hr => hc r (Codec.mem_RQ_of_duty hr)

/-! ## Between transactions -/

section
variable {x : Session} {c : Codec}

theorem Codec.Inv.fit (h : c.Inv) : c.session.Fit := ⟨h.replyLast, h.owedLegal⟩

theorem Codec.Inv.ready (h : c.Inv) (hr : c.session.owesReply = false) : c.session.Ready := ⟨hr, h.owedLegal⟩

theorem Codec.Done.inv (h : c.Done x) (hx : x.Fit) : c.Inv := by
  obtain rfl := h.session
  exact {
    statusLegal := h.status
    fsLegal := h.fsLegal
    fsStart := h.fsStart
    fsPending := fun e => absurd e h.notPending
    busy := by simp [h.idle, h.phase]
    cursor := by simp [h.idle]
    replyValid := by simp [h.noReply]
    reportsWithReply := absurd h.noReports
    reportCount := by simp [h.noReports]
    reportsLegal := by simp [h.noReports]
    dispatchLong := by simp [h.phase]
    replyIds := by simp [h.phase]
    runningClean := by simp [h.idle]
    owedIdle := fun _ => h.idle
    replyLast := hx.replyLast
    owedLegal := hx.legal }

theorem Codec.Done.withSession (h : c.Done x) (y : Session) : (c.withSession y).Done y :=
  { h with session := rfl }

/-- The invariant holds of a codec in its reset state (R300). -/
theorem Codec.reset_inv : Codec.reset.Inv :=
  Codec.Done.inv (x := Codec.reset.session)
    { idle := rfl, phase := rfl, status := by decide, fsLegal := by decide, fsStart := by decide
      notPending := by decide, noReports := rfl, noReply := rfl, session := rfl }
    ⟨by decide, by simp [Codec.reset]⟩

/-- A fit host's side may take the place of another, where it owes a reply only to an idle codec. -/
theorem Codec.Inv.withSession (h : c.Inv) (hx : x.Fit) (hi : x.owesReply = true → c.BUSY = false) :
    (c.withSession x).Inv :=
  { h with owedIdle := hi, replyLast := hx.replyLast, owedLegal := hx.legal }

/-- A request may be written while no transaction runs (R27, R304). -/
theorem Codec.Inv.withRequest (h : c.Inv) (hb : c.BUSY = false) (op : BitVec 3) (operand : Bytes) :
    ({ c with OPSEL := op, IN := operand } : Codec).Inv := by
  have idle : c.phase = .idle := by simpa [hb] using h.busy
  exact { h with
    cursor := by simp [hb]
    replyIds := by simp [idle] }

theorem Codec.Inv.withAcc (h : c.Inv) (cs : Byte) (bcd : BitVec 48) :
    ({ c with CS_ACC := cs, BCD_ACC := bcd } : Codec).Inv := { h with }

/-! ## While a transaction runs -/

theorem Codec.Inv.live (h : c.Inv) (hb : c.BUSY = true) : c.Live c.session := by
  obtain ⟨hrq, hrv, hst, hres⟩ := h.runningClean hb
  exact {
    running := hb, fsLegal := h.fsLegal, fsStart := h.fsStart, cursor := h.cursor hb
    noReports := hrq, noReply := hrv, status := hst, result := hres, session := rfl }

/-- Only the two scanning phases hold an escape back (R31). -/
theorem Codec.Inv.settled (h : c.Inv) (hb : c.BUSY = true) (hu : c.phase ≠ .unstuff) (hs : c.phase ≠ .sync) :
    c.Settled c.session :=
  { h.live hb with notPending := fun e => (h.fsPending e).elim hu hs }

theorem Codec.Inv.running_ready (h : c.Inv) (hb : c.BUSY = true) : c.session.Ready :=
  h.ready (Bool.eq_false_iff.2 fun e => Bool.false_ne_true ((h.owedIdle e).symm.trans hb))

/-- What a phase asks of the codec beyond a running transaction (R31, R174, R82). -/
structure Codec.PhaseFit (c : Codec) : Prop where
  notIdle : c.phase ≠ .idle
  pending : c.FS_STATE = FS_ESC → c.phase = .unstuff ∨ c.phase = .sync
  dispatchLong : c.phase = .dispatch → NU_MIN ≤ c.NU
  replyIds : ∀ rc, c.phase = .reply rc →
    (rc = ACK_GENERAL ∧ c.OPSEL = OP_BUILD8001) ∨ (rc = ACK_REGISTER ∧ c.OPSEL = 7)

theorem Codec.Live.inv (h : c.Live x) (hx : x.Ready) (hp : c.PhaseFit) : c.Inv := by
  obtain rfl := h.session
  exact {
    statusLegal := by simp [h.status]
    fsLegal := h.fsLegal
    fsStart := h.fsStart
    fsPending := hp.pending
    busy := iff_of_true h.running hp.notIdle
    cursor := fun _ => h.cursor
    replyValid := by simp [h.noReply]
    reportsWithReply := absurd h.noReports
    reportCount := by simp [h.noReports]
    reportsLegal := by simp [h.noReports]
    dispatchLong := hp.dispatchLong
    replyIds := hp.replyIds
    runningClean := fun _ => ⟨h.noReports, h.noReply, h.status, h.result⟩
    owedIdle := fun e => absurd (hx.noReply.symm.trans e) Bool.false_ne_true
    replyLast := hx.fit.replyLast
    owedLegal := hx.legal }

/-- A scanning phase asks nothing more. -/
theorem Codec.phaseFit_of_scan (hp : c.phase = .unstuff ∨ c.phase = .sync) : c.PhaseFit := by
  rcases hp with hp | hp <;>
  exact { notIdle := by simp [hp], pending := by simp [hp], dispatchLong := by simp [hp], replyIds := by simp [hp] }

/-- The phases of a running transaction that ask nothing of the codec beyond it. -/
def Phase.plain : Phase → Bool
  | .idle => false
  | .begin => true
  | .unstuff => true
  | .stuff _ => true
  | .checksum _ => true
  | .bcd2dec _ => true
  | .bcd2ts _ => true
  | .sync => true
  | .dispatch => false
  | .reply _ => false

theorem Codec.Settled.inPhase (h : c.Settled x) (hx : x.Ready) {ph : Phase} (hph : ph.plain = true) :
    ({ c with phase := ph } : Codec).Inv :=
  Codec.Live.inv (x := x) { h with } hx
    { notIdle := by rintro rfl; cases hph
      pending := fun e => absurd e h.notPending
      dispatchLong := by rintro rfl; cases hph
      replyIds := by rintro rc rfl; cases hph }

/-! ## The end of a PARSE -/

/-- Whatever an action made of a running codec meets the invariant once the host owes its duties. -/
theorem Codec.Acted.owed_inv {e : Codec} (ha : c.Acted e) (h : c.Settled x) (hx : x.Ready) :
    (e.withSession (e.session.owe e.duties)).Inv := by
  cases ha with
  | @raised st _ count iter pos =>
    have settled : (c.withBatch c.RQ count iter pos).Settled x := { h with }
    have done := settled.raise st
    rw [done.session]
    exact (done.withSession _).inv (hx.owe_duties (by simp))
  | @answered frame Q count iter pos hQ =>
    obtain ⟨hlen, hlegal⟩ : Q.length ≤ 65534 ∧ ∀ r ∈ Q, r.Legal := by
      rcases hQ with rfl | hQ
      · simp [h.noReports]
      · exact hQ
    obtain rfl := h.session
    have fit := hx.owe_duties (c := (c.withBatch Q count iter pos).answer frame) hlegal
    exact {
      statusLegal := Nat.zero_le _
      fsLegal := h.fsLegal
      fsStart := h.fsStart
      fsPending := fun e => absurd e h.notPending
      busy := iff_of_false Bool.false_ne_true (not_not.2 rfl)
      cursor := fun e => absurd e Bool.false_ne_true
      replyValid := fun _ => ⟨rfl, rfl⟩
      reportsWithReply := fun _ => rfl
      reportCount := hlen
      reportsLegal := hlegal
      dispatchLong := fun e => Phase.noConfusion e
      replyIds := fun _ e => Phase.noConfusion e
      runningClean := fun e => absurd e Bool.false_ne_true
      owedIdle := fun _ => rfl
      replyLast := fit.replyLast
      owedLegal := fit.legal }

end

end Sys2Proof.Machine
end

section
/-! SUPPORT. The invariant of the whole machine: every move and every byte-serial step answers with a state that
meets it, or is refused, and never faults. -/

namespace Sys2Proof.Machine

/-- The outcome of a step from a state that meets the invariant: the next state meets it too, and no fault. -/
def KeepsInv : Result → Prop
  | .next t => t.Inv
  | .fault _ => False
  | .refused _ => True

/-! ## Serving one of several -/

theorem State.Inv.withScript {s : State} (h : s.Inv) (l : List Move) : ({ s with script := l } : State).Inv where
  instances := h.instances
  canonical := { h.canonical with }

/-- While a connection is served, its codec may become any that meets the invariant. -/
theorem State.Inv.withCur {s : State} (h : s.Inv) (hp : s.port ≠ none) {c : Codec} (hc : c.Inv)
    (evs : List Event) (n : Nat) : ({ s with cur := c, events := evs, frees := n } : State).Inv where
  instances := ⟨hc, h.instances.2⟩
  canonical := { h.canonical with discarded := fun e => absurd e hp }

theorem State.Inv.parked {s : State} (h : s.Inv) : ∀ p ∈ s.parked, p.2.Inv := by
  obtain ⟨hcur, hothers⟩ := h.instances
  unfold State.parked
  split
  · exact hothers
  · intro p hp
    rcases mem_insertConn hp with rfl | hp
    · exact hcur
    · exact hothers p hp

/-- The others kept from those put back together, without the connection served next. -/
theorem State.Inv.select {s t : State} {k : Nat} (h : s.Inv) (hs : s.select k = some t) : t.Inv ∧ t.port ≠ none := by
  unfold State.select at hs
  split at hs
  · rename_i hp
    obtain rfl := Option.some.inj hs
    exact ⟨h, by simp [hp]⟩
  · split at hs
    · cases hs
    · rename_i c hc
      obtain rfl := Option.some.inj hs
      refine ⟨⟨⟨h.instances.2 _ (findConn_mem hc), fun p hp => h.parked p (mem_removeConn.1 hp).1⟩, ?_⟩, by simp⟩
      exact {
        rising := removeConn_rising (State.parked_rising h.canonical.rising)
        servedApart := fun j hj p hp => Option.some.inj hj ▸ (mem_removeConn.1 hp).2
        discarded := by simp }

theorem State.Inv.serve {s : State} (h : s.Inv) (k : Nat) {act : State → Result}
    (ha : ∀ t : State, t.Inv → t.port ≠ none → KeepsInv (act t)) : KeepsInv (s.serve k act) := by
  unfold State.serve
  split
  · trivial
  · rename_i t ht
    obtain ⟨hi, hp⟩ := h.select ht
    exact ha t hi hp

theorem findConn_eq_none {k : Nat} {l : List (Nat × Codec)} (h : findConn k l = none) : ∀ p ∈ l, p.1 ≠ k := by
  induction l with
  | nil => simp
  | cons q rest ih =>
    obtain ⟨j, d⟩ := q
    simp only [findConn] at h
    split at h
    · cases h
    · rename_i hne
      intro p hp
      rcases List.mem_cons.1 hp with rfl | hp
      · exact Ne.symm hne
      · exact ih h p hp

theorem State.Inv.openConn {s : State} (h : s.Inv) (k : Nat) : KeepsInv (s.openConn k) := by
  unfold State.openConn
  split
  · trivial
  · rename_i hnone
    split
    · rw [← State.findConn_parked h.canonical.rising] at hnone
      exact {
        instances := ⟨Codec.reset_inv, h.parked⟩
        canonical := {
          rising := State.parked_rising h.canonical.rising
          servedApart := fun j hj => Option.some.inj hj ▸ findConn_eq_none hnone
          discarded := by simp } }
    · trivial

theorem State.Inv.discard {s : State} (h : s.Inv) (k : Nat) : KeepsInv (s.discard k) where
  instances := ⟨Codec.reset_inv, h.instances.2⟩
  canonical := { rising := h.canonical.rising, servedApart := by simp, discarded := fun _ => rfl }

section
variable {s : State}

/-! ## The host's moves -/

theorem State.Inv.put (h : s.Inv) (hp : s.port ≠ none) {c : Codec} (hc : c.Inv) : KeepsInv (s.put c) :=
  h.withCur hp hc s.events s.frees

theorem State.Inv.putComposite (h : s.Inv) (hp : s.port ≠ none) {c : Codec} (hc : c.Inv) :
    KeepsInv (s.putComposite c) :=
  h.withCur hp (hc.withAcc _ _) s.events _

theorem State.Inv.putParse (h : s.Inv) (hp : s.port ≠ none) {c : Codec}
    (hc : (c.withSession (c.session.owe c.duties)).Inv) : KeepsInv (s.putParse c) := by
  unfold State.putParse
  split
  · exact h.putComposite hp hc
  · trivial

theorem State.Inv.arrive (h : s.Inv) (hp : s.port ≠ none) (payload : Bytes) : KeepsInv (s.arrive payload) := by
  have hc := h.instances.1
  unfold State.arrive
  split
  · exact h.put hp (hc.withSession ⟨hc.replyLast, hc.owedLegal⟩ hc.owedIdle)
  · trivial

/-- A load is done or refused. -/
theorem State.load_ne_fault (op : BitVec 3) (operand : Bytes) (s : State) (f : Fault) :
    s.load op operand ≠ .fault f := by
  unfold State.load
  split_ifs
  · simp
  · simp
  · split <;> simp
  · simp

theorem State.Inv.load (h : s.Inv) (hp : s.port ≠ none) (op : BitVec 3) (operand : Bytes) :
    KeepsInv (s.load op operand) := by
  have hc := h.instances.1
  cases hl : s.load op operand with
  | next t =>
    obtain ⟨hb, -, x, rfl, htake, hsame⟩ := State.load_next hl
    have owed : x.owed = s.cur.session.owed := by
      by_cases hop : op = OP_PARSE
      · obtain ⟨rest, -, rfl⟩ := Session.take_eq_some.1 (htake hop)
        rfl
      · rw [hsame hop]
    have fit : x.Fit := ⟨owed ▸ hc.replyLast, owed ▸ hc.owedLegal⟩
    exact h.withCur hp ((hc.withSession fit fun _ => hb).withRequest hb op operand) _ _
  | fault f => exact absurd hl (State.load_ne_fault op operand s f)
  | refused r => trivial

theorem State.Inv.collect (h : s.Inv) (hp : s.port ≠ none) (k : Nat) : KeepsInv (s.collect k) := by
  have hc := h.instances.1
  rcases State.collect_cases k s with ⟨-, he⟩ | ⟨d, rest, howed, he⟩
  · rw [he]
    exact h
  · rw [he]
    refine h.withCur hp (c := s.cur.withSession { s.cur.session with owed := rest })
      (hc.withSession ⟨fun e hd => hc.replyLast e ?_, fun r hr => hc.owedLegal r ?_⟩ fun hr => hc.owedIdle ?_) _ _
    · rw [howed]
      cases rest with
      | nil => cases hd
      | cons q more => exact List.mem_cons_of_mem _ hd
    · rw [howed]
      exact List.mem_cons_of_mem _ hr
    · rw [Session.owesReply, howed, List.any_cons, show rest.any Duty.isReply = true from hr, Bool.or_true]

theorem State.Inv.whenReady (h : s.Inv) {issued : Result}
    (hi : s.cur.session.Ready → KeepsInv issued) : KeepsInv (s.whenReady issued) := by
  unfold State.whenReady
  split_ifs with hb hr
  · trivial
  · trivial
  · exact hi (h.instances.1.ready (by simpa using hr))

theorem State.Inv.start (h : s.Inv) (hp : s.port ≠ none) : KeepsInv s.start :=
  h.whenReady fun hx => h.put hp ((s.cur.begin_settled .begin).inPhase hx (ph := .begin) rfl)

/-! ## A whole transaction, and the actions -/

theorem State.Inv.exec_action (h : s.Inv) (hp : s.port ≠ none) {x : Session} (hc : s.cur.Settled x) (hx : x.Ready)
    {i : Instr} (hi : i.format = .cmdid16) : KeepsInv (exec i s) := by
  obtain ⟨e, he, hact⟩ := Machine.exec_action hi s
  rw [he]
  exact h.putParse hp (hact.owed_inv hc hx)

/-- INVALID_FRAME and MALFORMED raised at the end of the frame sync. -/
theorem State.Inv.putParse_raise (h : s.Inv) (hp : s.port ≠ none) {x : Session} {c : Codec} (hc : c.Settled x)
    (hx : x.Ready) (st : Status) : KeepsInv (s.putParse (c.raise st)) := by
  have done := hc.raise st
  refine h.putParse hp ((done.withSession _).inv ?_)
  rw [done.session]
  exact hx.owe_duties (by simp)

theorem State.Inv.exec_parse (h : s.Inv) (hp : s.port ≠ none) (hx : s.cur.session.Ready) :
    KeepsInv (exec .parse s) := by
  rcases Machine.exec_parse s with ⟨-, he⟩ | ⟨d, e, -, he, hd, hact⟩
  · rw [he]
    exact h.putParse_raise hp (Codec.syncAll_settled true .sync s.cur) hx _
  · rw [he]
    exact h.putParse hp (hact.owed_inv hd hx)

theorem State.Inv.issueNow (h : s.Inv) (hp : s.port ≠ none) : KeepsInv s.issueNow := by
  refine h.whenReady fun hx => ?_
  rw [State.execDecoded_ok (decode_opselByte s.cur.OPSEL)]
  by_cases hparse : decodeOpsel s.cur.OPSEL = .parse
  · rw [hparse]
    exact h.exec_parse hp hx
  · obtain ⟨c, n, he, hdone⟩ := exec_operation (decodeOpsel_format _) hparse s
    rw [he]
    exact h.withCur hp (hdone.inv hx.fit) s.events n

/-! ## The byte-serial steps -/

/-- R80: the eight selects. -/
theorem opsel_cases (op : BitVec 3) : op = OP_UNSTUFF ∨ op = OP_STUFF ∨ op = OP_CHECKSUM ∨ op = OP_BCD2DEC ∨
    op = OP_BCD2TS ∨ op = OP_PARSE ∨ op = OP_BUILD8001 ∨ op = 7 := by
  revert op
  decide

section
variable {x : Session} (h : s.Inv) (hp : s.port ≠ none) (hc : s.cur.Settled x) (hx : x.Ready)
include h hp hc hx

theorem State.Inv.stuffStep (i : Nat) : KeepsInv (s.stuffStep i) := by
  unfold State.stuffStep
  split
  · exact h.put hp ((hc.stuffByte _).inPhase hx rfl)
  · exact h.put hp (hc.complete.inv hx.fit)

theorem State.Inv.checksumStep (i : Nat) : KeepsInv (s.checksumStep i) := by
  unfold State.checksumStep
  split
  · exact h.put hp ((hc.checksumByte _).inPhase hx rfl)
  · exact h.put hp (hc.checksumDone.inv hx.fit)

theorem State.Inv.bcd2decStep (i : Nat) : KeepsInv (s.bcd2decStep i) := by
  unfold State.bcd2decStep
  split
  · exact h.put hp ((hc.bcdByte _).inPhase hx rfl)
  · exact h.put hp (hc.bcdDone.inv hx.fit)

theorem State.Inv.bcd2tsStep (i : Nat) : KeepsInv (s.bcd2tsStep i) := by
  unfold State.bcd2tsStep
  split
  · exact h.withCur hp ((State.tsStep_settled hc i).inPhase hx (ph := .bcd2ts (i + 1)) rfl)
      s.events (s.frees + 1)
  · exact h.putComposite hp (hc.complete.inv hx.fit)

theorem State.Inv.headerStep : KeepsInv s.headerStep := by
  unfold State.headerStep
  rcases hc.loadHeader with ⟨-, hl⟩ | ⟨-, hl⟩ | ⟨d, -, hl, hd, hph, hlong⟩ <;> rw [hl]
  · exact h.putParse_raise hp hc hx _
  · exact h.putParse_raise hp hc hx _
  · exact h.put hp (hd.inv hx
      { notIdle := by simp [hph]
        pending := fun e => absurd e hd.notPending
        dispatchLong := fun _ => hlong
        replyIds := by simp [hph] })

theorem State.Inv.dispatchStep : KeepsInv (s.execDecoded .cmdid16 (bytes16 s.cur.H_CMD)) := by
  rw [State.execDecoded_ok (decode_cmdid16_bytes16 _)]
  exact h.exec_action hp hc hx (decodeCommand_format _)

theorem State.Inv.replyStep {rc : BitVec 16} (hrc : rc = ACK_GENERAL ∨ rc = ACK_REGISTER) :
    KeepsInv (s.execDecoded .reply (bytes16 rc)) := by
  rcases hrc with rfl | rfl
  · rw [State.execDecoded_ok (i := .reply8001) (more := []) (by decide)]
    exact h.putComposite hp (hc.build8001Op.inv hx.fit)
  · rw [State.execDecoded_ok (i := .reply8100) (more := []) (by decide)]
    exact h.putComposite hp (hc.build8100Op.inv hx.fit)

theorem State.Inv.beginOp : KeepsInv s.beginOp := by
  have reply : ∀ rc, (rc = ACK_GENERAL ∧ s.cur.OPSEL = OP_BUILD8001) ∨ (rc = ACK_REGISTER ∧ s.cur.OPSEL = 7) →
      KeepsInv (s.put { s.cur with phase := .reply rc }) := fun rc hrc =>
    h.put hp (Codec.Live.inv (x := x) { hc with } hx
      { notIdle := by simp
        pending := fun e => absurd e hc.notPending
        dispatchLong := by simp
        replyIds := fun rc' e => Phase.reply.inj e ▸ hrc })
  unfold State.beginOp
  dsimp only
  split_ifs with h0 h1 h2 h3 hlen h4 hsix h5 h6
  · exact h.put hp (hc.inPhase hx rfl)
  · exact h.put hp (hc.inPhase hx rfl)
  · exact h.put hp (hc.inPhase hx rfl)
  · exact h.put hp ((hc.raise _).inv hx.fit)
  · exact h.put hp (hc.inPhase hx rfl)
  · exact h.putComposite hp ((hc.raise _).inv hx.fit)
  · exact h.put hp (hc.inPhase hx rfl)
  · exact h.put hp (hc.inPhase hx rfl)
  · exact reply _ (.inl ⟨rfl, h6⟩)
  · have seven := opsel_cases s.cur.OPSEL
    simp only [h0, h1, h2, h3, h4, h5, h6, false_or] at seven
    exact reply _ (.inr ⟨rfl, seven⟩)

end

/-- R126, R171: one step of a scanning machine, from its next byte, its pending escape or its end. -/
theorem State.Inv.runSync (h : s.Inv) (hp : s.port ≠ none) {x : Session} (hc : s.cur.Live x) (hx : x.Ready)
    {sync : Bool} (hph : s.cur.phase = if sync then .sync else .unstuff) : KeepsInv (s.runSync sync) := by
  have syncing : s.cur.syncing = sync := by
    rw [Codec.syncing, hph]
    cases sync <;> rfl
  have scan : s.cur.phase = .unstuff ∨ s.cur.phase = .sync := by
    rw [hph]
    cases sync <;> simp
  by_cases hpos : s.cur.IN_POS < s.cur.NIN
  · rw [State.runSync_byte syncing hc.fsLegal hpos]
    exact h.put hp ((hc.syncByte hpos sync _).inv hx (Codec.phaseFit_of_scan (by rwa [Codec.syncByte_frame])))
  · by_cases hesc : s.cur.FS_STATE = FS_ESC
    · rw [State.runSync_finish syncing (by omega) hesc]
      exact h.put hp ((hc.finishSync sync).inv hx (Codec.phaseFit_of_scan (by rwa [Codec.finishSync_frame])))
    · have settled : s.cur.Settled x := { hc with notPending := hesc }
      rw [State.runSync_end hc.fsLegal (by omega) hesc]
      cases sync with
      | true => exact h.headerStep hp settled hx
      | false => exact h.put hp (settled.complete.inv hx.fit)

theorem State.Inv.runStep (h : s.Inv) : KeepsInv s.runStep := by
  have hc := h.instances.1
  unfold State.runStep
  split
  · exact h
  · rename_i hbusy
    have busy : s.cur.BUSY = true := by simpa using hbusy
    have hp : s.port ≠ none := fun hn => by simp [h.canonical.discarded hn, Codec.reset] at busy
    have ready := hc.running_ready busy
    have settled (hu : s.cur.phase ≠ .unstuff) (hs : s.cur.phase ≠ .sync) := hc.settled busy hu hs
    cases hph : s.cur.phase with
    | idle => exact h
    | begin => exact h.beginOp hp (settled (by simp [hph]) (by simp [hph])) ready
    | unstuff => exact h.runSync hp (hc.live busy) ready hph
    | stuff i => exact h.stuffStep hp (settled (by simp [hph]) (by simp [hph])) ready i
    | checksum i => exact h.checksumStep hp (settled (by simp [hph]) (by simp [hph])) ready i
    | bcd2dec i => exact h.bcd2decStep hp (settled (by simp [hph]) (by simp [hph])) ready i
    | bcd2ts i => exact h.bcd2tsStep hp (settled (by simp [hph]) (by simp [hph])) ready i
    | sync => exact h.runSync hp (hc.live busy) ready hph
    | dispatch => exact h.dispatchStep hp (settled (by simp [hph]) (by simp [hph])) ready
    | reply rc =>
      exact h.replyStep hp (settled (by simp [hph]) (by simp [hph])) ready
        ((hc.replyIds rc hph).imp And.left And.left)

/-! ## The step -/

theorem State.Inv.move (h : s.Inv) (m : Move) : KeepsInv (State.move m s) := by
  cases m with
  | openConn k => exact h.openConn k
  | closeConn k => exact h.serve k fun _ ht _ => ht.discard k
  | arrive k payload => exact h.serve k fun _ ht hp => ht.arrive hp payload
  | load k op operand => exact h.serve k fun _ ht hp => ht.load hp op operand
  | issue k => exact h.serve k fun _ ht hp => ht.issueNow hp
  | start k => exact h.serve k fun _ ht hp => ht.start hp
  | run k => exact h.serve k fun _ ht _ => ht.runStep
  | collect k => exact h.serve k fun _ ht hp => ht.collect hp k

/-- One step, scheduled or not, from a state that meets the invariant. -/
theorem State.Inv.step (h : s.Inv) : KeepsInv (step s) := by
  cases hs : s.script with
  | nil =>
    rw [step_nil hs]
    exact h.runStep
  | cons m rest =>
    rw [step_cons hs]
    exact (h.withScript rest).move m

end

end Sys2Proof.Machine
end

section
/-! SUPPORT. The delimiter registers of the frame-sync machine (43_parser.md R171, R172), and the host's request on the
connection served. -/

namespace Sys2Proof.Machine

theorem Codec.foldl_syncByte_LAST_BYTE (B : Bytes) (c : Codec) :
    (B.foldl (Codec.syncByte true) c).LAST_BYTE = B.getLast?.getD c.LAST_BYTE := by
  induction B generalizing c with
  | nil => rfl
  | cons b rest ih =>
    rw [List.foldl_cons, ih, Codec.syncByte_frame, List.getLast?_cons]
    rfl

/-- R171: FIRST_OK is written by the first byte only. -/
theorem Codec.syncByte_FIRST_OK (c : Codec) (b : Byte) :
    (c.syncByte true b).FIRST_OK = if c.FS_STATE = FS_START then b == FLAG else c.FIRST_OK := by
  unfold Codec.syncByte
  by_cases hesc : c.FS_STATE = FS_ESC
  · rw [if_pos hesc, if_neg (by rw [hesc]; decide), Codec.partnerByte]
    split_ifs <;> rfl
  · rw [if_neg hesc, Codec.plainByte]
    split_ifs <;> simp_all

theorem Codec.foldl_syncByte_FIRST_OK (B : Bytes) {c : Codec} (h : c.FS_STATE ≠ FS_START) :
    (B.foldl (Codec.syncByte true) c).FIRST_OK = c.FIRST_OK := by
  induction B generalizing c with
  | nil => rfl
  | cons b rest ih =>
    rw [List.foldl_cons, ih (Codec.syncByte_FS_legal ..).2, Codec.syncByte_FIRST_OK, if_neg h]

/-- R171: after a whole payload FIRST_OK tells whether its first byte is FLAG. -/
theorem Codec.syncAll_FIRST_OK (ph : Phase) (c : Codec) :
    ((c.begin ph).syncAll true).FIRST_OK = (c.IN.head? == some FLAG) := by
  rw [Codec.syncAll, Codec.finishSync_frame, Codec.begin_IN]
  cases c.IN with
  | nil => rfl
  | cons b rest =>
    have start : (c.begin ph).FS_STATE = FS_START := rfl
    rw [List.foldl_cons, Codec.foldl_syncByte_FIRST_OK rest (Codec.syncByte_FS_legal ..).2, Codec.syncByte_FIRST_OK,
      if_pos start]
    rfl

/-- R171: and LAST_BYTE its last byte. -/
theorem Codec.syncAll_LAST_BYTE (ph : Phase) (c : Codec) :
    ((c.begin ph).syncAll true).LAST_BYTE = c.IN.getLast?.getD 0x00 := by
  rw [Codec.syncAll, Codec.finishSync_frame, Codec.foldl_syncByte_LAST_BYTE]
  rfl

theorem Codec.foldl_syncByte_IN (sync : Bool) (B : Bytes) (c : Codec) :
    (B.foldl (Codec.syncByte sync) c).IN = c.IN :=
  List.foldlRecOn (motive := fun d => d.IN = c.IN) B (Codec.syncByte sync) rfl
    fun d hd b _ => (d.syncByte_IN sync b).trans hd

theorem Codec.syncAll_IN (sync : Bool) (ph : Phase) (c : Codec) : ((c.begin ph).syncAll sync).IN = c.IN := by
  rw [Codec.syncAll, Codec.finishSync_frame, Codec.foldl_syncByte_IN]
  rfl

/-- R172: the frame-sync machine finds a frame exactly where the payload begins and ends with FLAG. -/
theorem Codec.syncAll_frameValid (ph : Phase) (c : Codec) :
    ((c.begin ph).syncAll true).frameValid = true ↔ c.IN.head? = some FLAG ∧ c.IN.getLast? = some FLAG := by
  have len : ((c.begin ph).syncAll true).NIN = c.IN.length := congrArg List.length (Codec.syncAll_IN true ph c)
  rw [Codec.frameValid, len, Codec.syncAll_FIRST_OK, Codec.syncAll_LAST_BYTE]
  cases c.IN with
  | nil => simp
  | cons b rest => simp [List.getLast?_cons]

/-- R172: a PARSE of a payload between two flags never ends INVALID_FRAME. -/
theorem exec_parse_status_ne {s t : State} (hf : s.cur.IN.head? = some FLAG) (hl : s.cur.IN.getLast? = some FLAG)
    (h : exec .parse s = .next t) : t.cur.STATUS ≠ 1 := by
  have valid := (Codec.syncAll_frameValid .sync s.cur).2 ⟨hf, hl⟩
  rcases exec_parse s with ⟨hv, -⟩ | ⟨d, e, -, he, -, hact⟩
  · exact absurd (hv.symm.trans valid) Bool.false_ne_true
  · rw [(State.putParse_next (he ▸ h)).2]
    exact hact.status_ne

/-- R305: one whole frame begins and ends with FLAG. -/
theorem flags_of_wholeFrame {payload : Bytes} (h : wholeFrame payload = true) :
    payload.head? = some FLAG ∧ payload.getLast? = some FLAG := by
  simp only [wholeFrame, Bool.and_eq_true, beq_iff_eq] at h
  obtain ⟨⟨⟨-, first⟩, last⟩, -⟩ := h
  exact ⟨first, last⟩

/-! ## The request -/

/-- R27: a request longer than the build admits is refused. -/
theorem State.load_tooLong {s : State} {operand : Bytes} (hb : s.cur.BUSY = false)
    (ha : admits s.cfg.MAX_PAYLOAD_LEN operand.length = false) (op : BitVec 3) :
    s.load op operand = .refused .payloadTooLong := by
  simp [State.load, hb, ha]

/-- R23: a request of any operation but PARSE is written as it comes. -/
theorem State.load_request {s : State} {op : BitVec 3} {operand : Bytes} (hb : s.cur.BUSY = false)
    (ha : admits s.cfg.MAX_PAYLOAD_LEN operand.length = true) (hop : op ≠ OP_PARSE) :
    s.load op operand = s.put { s.cur with OPSEL := op, IN := operand } := by
  simp [State.load, hb, ha, hop]

/-- R305: the request of a PARSE is written where its operand can be taken. -/
theorem State.load_parse_taken {s : State} {operand : Bytes} {y : Session} (hb : s.cur.BUSY = false)
    (ha : admits s.cfg.MAX_PAYLOAD_LEN operand.length = true) (ht : s.cur.session.take operand = some y) :
    s.load OP_PARSE operand = s.put { s.cur with OPSEL := OP_PARSE, IN := operand, session := y } := by
  simp [State.load, hb, ha, ht]

/-- R305: and refused where it cannot. -/
theorem State.load_parse_refused {s : State} {operand : Bytes} (hb : s.cur.BUSY = false)
    (ha : admits s.cfg.MAX_PAYLOAD_LEN operand.length = true) (ht : s.cur.session.take operand = none) :
    s.load OP_PARSE operand = .refused .payloadNotDelivered := by
  simp [State.load, hb, ha, ht]

/-- Only the oldest payload can be taken. -/
theorem Session.take_eq_none {payload : Bytes} {x : Session} (h : x.inbound.head? ≠ some payload) :
    x.take payload = none := by
  refine Option.eq_none_iff_forall_ne_some.2 fun y hy => h ?_
  obtain ⟨rest, hin, -⟩ := Session.take_eq_some.1 hy
  rw [hin, List.head?_cons]

end Sys2Proof.Machine
end

section
/-! PROOFS. The statements about the state: the invariant and its consequences, REPLY_VALID, and the host's request
(10_state.md). -/

namespace Sys2Proof.Machine

/-- Settles O50: `State.Inv.step` read for a step that answers with a state. -/
theorem stepKeepsInvariant : Obligations.StepKeepsInvariant := by
  intro s t h hs
  have keeps := h.step
  rwa [hs] at keeps

/-- Settles O45: PARSE and the actions by what an action can end with, the other operations by their clean end. -/
theorem replyValidExactlyWhenParseOk : Obligations.ReplyValidExactlyWhenParseOk := by
  intro i s t h
  refine ⟨?_, fun hf hp => ?_⟩
  · rintro (rfl | hf)
    · exact exec_parse_replyValid_iff h
    · obtain ⟨e, he, hact⟩ := exec_action hf s
      obtain ⟨hr, hst⟩ := State.putParse_next (he ▸ h)
      rw [hr, hst]
      exact hact.replyValid_iff
  · obtain ⟨c, n, he, hdone⟩ := exec_operation hf hp s
    obtain rfl := Host.Outcome.next.inj (he.symm.trans h)
    exact hdone.noReply

/-- Settles O52: `State.Inv.step` read for a fault. -/
theorem noFaultUnderInvariant : Obligations.NoFaultUnderInvariant := by
  intro s f h hs
  have keeps := h.step
  rwa [hs] at keeps

/-- Settles O59: the load by its operation and by what was delivered, the whole frame by its two flags. -/
theorem loadWritesTheRequest : Obligations.LoadWritesTheRequest := by
  intro s rest k op x hscript hport hbusy
  have load : step s = ({ s with script := rest } : State).load op x := by
    rw [step_cons hscript]
    exact State.serve_of_select (State.select_self hport)
  rw [load]
  refine ⟨fun ha => ⟨fun hop => ?_, fun later hop hin => ?_, fun hop hhead => ?_⟩, fun ha => ?_⟩
  · exact State.load_request (s := { s with script := rest }) hbusy ha hop
  · subst hop
    have taken := Session.take_eq_some.2 ⟨later, hin, rfl⟩
    refine ⟨State.load_parse_taken (s := { s with script := rest }) hbusy ha taken, fun hw u hu => ?_⟩
    obtain ⟨hf, hl⟩ := flags_of_wholeFrame hw
    exact exec_parse_status_ne hf hl hu
  · subst hop
    exact State.load_parse_refused (s := { s with script := rest }) hbusy ha (Session.take_eq_none hhead)
  · exact State.load_tooLong (s := { s with script := rest }) hbusy ha op

/-- Settles O2: no other codec, and the served one in its reset state. -/
theorem resetMeetsInvariant : Obligations.ResetMeetsInvariant where
  instances := ⟨Codec.reset_inv, fun _ hp => absurd hp List.not_mem_nil⟩
  canonical := {
    rising := List.Pairwise.nil
    servedApart := fun _ _ _ hp => absurd hp List.not_mem_nil
    discarded := fun _ => rfl }

end Sys2Proof.Machine
end

section
/-! SUPPORT. Noninterference (R64, R278): what one move on the served codec makes of it depends on that codec
and the build alone, so that the same codec fares alike in any other machine, and it moves no other codec. -/

namespace Sys2Proof.Machine

/-- Machine `m`, of the build of `s`, serving the codec `s` serves. -/
def State.inMachine (s m : State) : State := { m with cfg := s.cfg, cur := s.cur }

@[simp] theorem State.inMachine_cfg (s m : State) : (s.inMachine m).cfg = s.cfg := rfl
@[simp] theorem State.inMachine_cur (s m : State) : (s.inMachine m).cur = s.cur := rfl

theorem State.inMachine_of_eq {s m : State} (hcfg : s.cfg = m.cfg) (hcur : s.cur = m.cur) : s.inMachine m = m := by
  rw [State.inMachine, hcfg, hcur]

/-- The outcomes of one action in the machines `s` and `s.inMachine m`: both stop for the same reason, or both write
back the same codec but for the two accumulators of R35, and neither moves any other. -/
inductive State.Agree (s m : State) : Result → Result → Prop where
  | next {c d : Codec} (h : c.maskAcc = d.maskAcc) (evs evs' : List Event) (n n' : Nat) :
      s.Agree m (.next { s with cur := c, events := evs, frees := n })
        (.next { s.inMachine m with cur := d, events := evs', frees := n' })
  | fault (f : Fault) : s.Agree m (.fault f) (.fault f)
  | refused (r : Refusal) : s.Agree m (.refused r) (.refused r)

/-- What an action that answers with a state leaves, and answers in the other machine. -/
theorem State.Agree.of_next {s m t : State} {r : Result} (h : s.Agree m (.next t) r) :
    t.port = s.port ∧ t.others = s.others ∧
    ∃ t', r = .next t' ∧ t'.port = m.port ∧ t'.cur.maskAcc = t.cur.maskAcc := by
  cases h with
  | next hmask => exact ⟨rfl, rfl, _, rfl, rfl, hmask.symm⟩

/-- An action on the served codec that neither sees nor moves anything else but its build. -/
def State.Local (act : State → Result) : Prop := ∀ s m : State, s.Agree m (act s) (act (s.inMachine m))

/-! ## Writing the codec back -/

section
variable {s m : State} {c : Codec}

/-- Outcomes agree where both machines take the same branch. -/
theorem State.Agree.ite {p : Prop} [Decidable p] {r₁ r₂ r₁' r₂' : Result} (h₁ : s.Agree m r₁ r₁')
    (h₂ : s.Agree m r₂ r₂') : s.Agree m (if p then r₁ else r₂) (if p then r₁' else r₂') := by
  split
  · exact h₁
  · exact h₂

theorem State.Agree.same : s.Agree m (.next s) (.next (s.inMachine m)) :=
  .next (c := s.cur) rfl s.events m.events s.frees m.frees

theorem State.Agree.put : s.Agree m (s.put c) ((s.inMachine m).put c) :=
  .next rfl s.events m.events s.frees m.frees

theorem State.Agree.putComposite : s.Agree m (s.putComposite c) ((s.inMachine m).putComposite c) :=
  .next (by rfl) s.events m.events _ _

theorem State.Agree.putParse : s.Agree m (s.putParse c) ((s.inMachine m).putParse c) :=
  .ite .putComposite (.refused _)

theorem State.Agree.whenReady {issued issued' : Result} (h : s.Agree m issued issued') :
    s.Agree m (s.whenReady issued) ((s.inMachine m).whenReady issued') :=
  .ite (.refused _) (.ite (.refused _) h)

end

/-! ## The instructions -/

theorem Codec.tsByte_maskAcc (i : Nat) (b : Byte) (c : Codec) : (c.tsByte i b).maskAcc = c.maskAcc.tsByte i b := by
  unfold Codec.tsByte
  split <;> rfl

/-- R35: a step of BCD2TS reads no accumulator. -/
theorem State.tsStep_maskAcc (s : State) (i : Nat) :
    (s.tsStep i).cur.maskAcc = s.cur.maskAcc.tsByte i (byteAt s.cur.maskAcc.IN i) :=
  Codec.tsByte_maskAcc i _ s.cur

theorem State.tsFold_maskAcc {s t : State} (h : s.cur.maskAcc = t.cur.maskAcc) (l : List Nat) :
    (l.foldl State.tsStep s).cur.maskAcc = (l.foldl State.tsStep t).cur.maskAcc := by
  induction l generalizing s t with
  | nil => exact h
  | cons i rest ih => exact ih (by rw [State.tsStep_maskAcc, State.tsStep_maskAcc, h])

/-- R35: what BCD2TS makes of the codec but for its accumulators does not depend on the draws. -/
theorem execBcd2ts_local : State.Local execBcd2ts := fun s m =>
  have fold := State.tsFold_maskAcc (s := { s with cur := s.cur.begin (.bcd2ts 0) })
    (t := { s.inMachine m with cur := s.cur.begin (.bcd2ts 0) }) rfl (List.range 6)
  .ite (.next (by rfl) s.events m.events _ _) <| by
    rw [State.tsFold_frame, State.tsFold_frame _ { s.inMachine m with cur := _ }]
    exact .next (by exact congrArg (Codec.complete .ok) fold) s.events m.events _ _

theorem execParse_local : State.Local execParse := by
  intro s m
  unfold execParse
  simp only [State.inMachine_cur]
  split
  · exact .putParse
  · exact .putParse

theorem execBcd2dec_local : State.Local execBcd2dec := fun _ _ => .ite .put .put

theorem exec_local (i : Instr) : State.Local (exec i) := by
  intro s m
  cases i with
  | unstuff => exact .put
  | stuff => exact .put
  | checksum => exact .put
  | bcd2dec => exact execBcd2dec_local s m
  | bcd2ts => exact execBcd2ts_local s m
  | parse => exact execParse_local s m
  | build8001 => exact .putComposite
  | build8100 => exact .putComposite
  | locReport => exact .putParse
  | batchLoc => exact .putParse
  | register => exact .putParse
  | heartbeat => exact .putParse
  | auth2 => exact .putParse
  | unrecognized cmd => exact .putParse
  | escFlag => exact .put
  | escEsc => exact .put
  | escOther partner => exact .put
  | escTrailing => exact .put
  | reply8001 => exact .putComposite
  | reply8100 => exact .putComposite

theorem State.Agree.execDecoded {s m : State} {f : Format} {bytes : Bytes} :
    s.Agree m (s.execDecoded f bytes) ((s.inMachine m).execDecoded f bytes) := by
  unfold State.execDecoded
  split
  · exact exec_local _ s m
  · exact .fault _

/-! ## The byte-serial steps -/

theorem State.beginOp_local : State.Local State.beginOp := fun _ _ =>
  .ite .put <|
  .ite .put <|
  .ite .put <|
  .ite (.ite .put .put) <|
  .ite (.ite .putComposite .put) <|
  .ite .put <|
  .ite .put .put

theorem State.stuffStep_local (i : Nat) : State.Local (State.stuffStep i) := fun _ _ => .ite .put .put

theorem State.checksumStep_local (i : Nat) : State.Local (State.checksumStep i) := fun _ _ => .ite .put .put

theorem State.bcd2decStep_local (i : Nat) : State.Local (State.bcd2decStep i) := fun _ _ => .ite .put .put

theorem State.bcd2tsStep_local (i : Nat) : State.Local (State.bcd2tsStep i) := fun s m =>
  .ite (.next (by rfl) s.events m.events _ _) .putComposite

theorem State.headerStep_local : State.Local State.headerStep := by
  intro s m
  unfold State.headerStep
  rw [State.inMachine_cur]
  split
  · exact .putParse
  · exact .put

theorem State.syncStep_local (sync : Bool) : State.Local (State.syncStep sync) := fun s m =>
  .ite (.fault _) <| .ite .put <| .ite (State.headerStep_local s m) .put

theorem State.runSync_local (sync : Bool) : State.Local (State.runSync sync) := fun s m =>
  .ite .execDecoded (State.syncStep_local sync s m)

theorem State.runStep_local : State.Local State.runStep := fun s m =>
  .ite .same <| by
    rw [State.inMachine_cur]
    cases s.cur.phase with
    | idle => exact .same
    | begin => exact State.beginOp_local s m
    | unstuff => exact State.runSync_local false s m
    | stuff i => exact State.stuffStep_local i s m
    | checksum i => exact State.checksumStep_local i s m
    | bcd2dec i => exact State.bcd2decStep_local i s m
    | bcd2ts i => exact State.bcd2tsStep_local i s m
    | sync => exact State.runSync_local true s m
    | dispatch => exact .execDecoded
    | reply rc => exact .execDecoded

/-! ## The moves -/

theorem State.arrive_local (payload : Bytes) : State.Local (State.arrive payload) := fun _ _ =>
  .ite .put (.refused _)

theorem State.load_local (op : BitVec 3) (operand : Bytes) : State.Local (State.load op operand) := fun s m =>
  .ite (.refused _) <| .ite (.refused _) <| .ite
    (by
      rw [State.inMachine_cur]
      split
      · exact .refused _
      · exact .put)
    .put

theorem State.issueNow_local : State.Local State.issueNow := fun _ _ =>
  .whenReady .execDecoded

theorem State.start_local : State.Local State.start := fun _ _ =>
  .whenReady .put

theorem State.collect_local (k : Nat) : State.Local (State.collect k) := by
  intro s m
  unfold State.collect
  rw [State.inMachine_cur]
  split
  · exact .same
  · exact .next rfl _ _ s.frees m.frees

/-- R278: a move on a connection, its opening and closing apart, is a local action on the codec served. -/
theorem State.move_local {mv : Move} {k : Nat}
    (h : (∃ x, mv = .arrive k x) ∨ (∃ op x, mv = .load k op x) ∨ mv = .issue k ∨ mv = .start k ∨ mv = .run k ∨
      mv = .collect k) :
    ∃ act, State.Local act ∧ State.move mv = State.serve k act := by
  rcases h with ⟨x, rfl⟩ | ⟨op, x, rfl⟩ | rfl | rfl | rfl | rfl
  · exact ⟨_, State.arrive_local x, rfl⟩
  · exact ⟨_, State.load_local op x, rfl⟩
  · exact ⟨_, State.issueNow_local, rfl⟩
  · exact ⟨_, State.start_local, rfl⟩
  · exact ⟨_, State.runStep_local, rfl⟩
  · exact ⟨_, State.collect_local k, rfl⟩

/-! ## The codecs around the one served -/

theorem State.conn_served {s : State} {k : Nat} (hp : s.port = some k) : s.conn k = some s.cur := if_pos hp

theorem State.conn_other {s : State} {k j : Nat} (hp : s.port = some k) (hj : j ≠ k) :
    s.conn j = findConn j s.others := by
  refine if_neg fun e => hj ?_
  exact Option.some.inj (e.symm.trans hp)

/-- R278: an opening parks the codec served and serves a new one. -/
theorem State.openConn_next {s t : State} {k : Nat} (h : s.openConn k = .next t) :
    t = { s with port := some k, cur := Codec.reset, others := s.parked } := by
  unfold State.openConn at h
  split at h
  · cases h
  · split at h
    · exact (Host.Outcome.next.inj h).symm
    · cases h

/-- An action is done only on a connection that is open. -/
theorem State.serve_next {s t : State} {k : Nat} {act : State → Result} :
    s.serve k act = .next t ↔ ∃ u, s.select k = some u ∧ act u = .next t := by
  unfold State.serve
  cases s.select k <;> simp

/-- The turn goes to the codec the machine holds for the connection, in the same build. -/
theorem State.select_served {s u : State} {k : Nat} (h : s.select k = some u) :
    u.port = some k ∧ s.conn k = some u.cur ∧ u.cfg = s.cfg := by
  unfold State.select at h
  split at h
  · rename_i hp
    obtain rfl := Option.some.inj h
    exact ⟨hp, State.conn_served hp, rfl⟩
  · rename_i hp
    split at h
    · cases h
    · rename_i c hc
      obtain rfl := Option.some.inj h
      exact ⟨rfl, (if_neg hp).trans hc, rfl⟩

theorem State.select_of_conn {s : State} {k : Nat} {c : Codec} (h : s.conn k = some c) :
    ∃ u, s.select k = some u := by
  unfold State.conn at h
  unfold State.select
  split
  · exact ⟨s, rfl⟩
  · rename_i hp
    rw [if_neg hp] at h
    exact ⟨_, by rw [h]⟩

/-- A local action moves no codec but the one served. -/
theorem State.Local.conn_other {act : State → Result} (ha : State.Local act) {s t : State} (h : act s = .next t)
    {k j : Nat} (hp : s.port = some k) (hj : j ≠ k) : t.conn j = s.conn j := by
  obtain ⟨hport, hothers, -⟩ := State.Agree.of_next (h ▸ ha s s)
  rw [State.conn_other hp hj, State.conn_other (hport.trans hp) hj, hothers]

/-- Two machines of one build that serve the same codec do a local action on it alike. -/
theorem State.Local.conn_served {act : State → Result} (ha : State.Local act) {s s' t : State} {k : Nat}
    (hcfg : s.cfg = s'.cfg) (hcur : s.cur = s'.cur) (hp : s.port = some k) (hp' : s'.port = some k)
    (h : act s = .next t) :
    ∃ t', act s' = .next t' ∧ (t'.conn k).map Codec.maskAcc = (t.conn k).map Codec.maskAcc := by
  have agree := ha s s'
  rw [h, State.inMachine_of_eq hcfg hcur] at agree
  obtain ⟨hport, -, t', hact, hport', hmask⟩ := agree.of_next
  refine ⟨t', hact, ?_⟩
  rw [State.conn_served (hport.trans hp), State.conn_served (hport'.trans hp'), Option.map_some, Option.map_some,
    hmask]

end Sys2Proof.Machine
end

section
/-! SUPPORT. When the host may issue a transaction (R63, R271, R307). -/

namespace Sys2Proof.Machine

theorem Duty.isReply_iff {d : Duty} : d.isReply = true ↔ ∃ frame, d = .writeReply frame := by
  cases d <;> simp [Duty.isReply]

theorem Session.owesReply_iff {x : Session} : x.owesReply = true ↔ ∃ frame, Duty.writeReply frame ∈ x.owed := by
  simp only [Session.owesReply, List.any_eq_true, Duty.isReply_iff]
  exact ⟨fun ⟨_, hd, frame, he⟩ => ⟨frame, he ▸ hd⟩, fun ⟨frame, hd⟩ => ⟨_, hd, frame, rfl⟩⟩

theorem State.whenReady_ready {s : State} (hb : s.cur.BUSY = false) (ho : s.cur.session.owesReply = false)
    (issued : Result) : s.whenReady issued = issued := by
  simp [State.whenReady, hb, ho]

theorem State.whenReady_owing {s : State} (hb : s.cur.BUSY = false) (ho : s.cur.session.owesReply = true)
    (issued : Result) : s.whenReady issued = .refused .resultNotCollected := by
  simp [State.whenReady, hb, ho]

theorem State.issueNow_ready {s : State} (hb : s.cur.BUSY = false) (ho : s.cur.session.owesReply = false) :
    s.issueNow = exec (decodeOpsel s.cur.OPSEL) s :=
  (State.whenReady_ready hb ho _).trans (State.execDecoded_ok (decode_opselByte _))

/-- D32: the one reason the end of a PARSE is refused. -/
theorem State.putParse_refused {s : State} {c : Codec} {r : Refusal} (h : s.putParse c = .refused r) :
    r = .reportQueueTooSmall := by
  rcases s.putParse_cases c with ⟨-, he⟩ | ⟨-, he⟩ <;> rw [he] at h
  · cases h
  · exact (Host.Outcome.refused.inj h).symm

/-- D32: no operation is refused for anything else (R80). -/
theorem exec_opsel_refused {i : Instr} (hi : i.format = .opsel3) {s : State} {r : Refusal}
    (h : exec i s = .refused r) : r = .reportQueueTooSmall := by
  by_cases hp : i = .parse
  · subst hp
    rcases exec_parse s with ⟨-, he⟩ | ⟨d, e, -, he, -⟩
    · exact State.putParse_refused (he ▸ h)
    · exact State.putParse_refused (he ▸ h)
  · obtain ⟨c, n, he, -⟩ := exec_operation hi hp s
    cases he.symm.trans h

end Sys2Proof.Machine
end

section
/-! PROOFS. The statements about the codecs side by side and about issuing a transaction (20_memory.md). -/

namespace Sys2Proof.Machine

/-- Settles O54: an opening and a closing by how the others are held, every other move because it is local. -/
theorem otherInstancesUntouched : Obligations.OtherInstancesUntouched := by
  intro s t m rest k j hcanon hscript hm hstep hj
  rw [step_cons hscript] at hstep
  have rising : Rising ({ s with script := rest } : State).others := hcanon.rising
  rcases hm with rfl | rfl | hm
  · obtain rfl := State.openConn_next hstep
    rw [State.conn_other rfl hj]
    exact State.findConn_parked rising j
  · obtain ⟨u, hu, hact⟩ := State.serve_next.1 hstep
    obtain ⟨hp, -, -, same, -⟩ := State.select_conn rising hu
    obtain rfl := Host.Outcome.next.inj hact
    exact (State.conn_other hp hj).symm.trans (same j)
  · obtain ⟨act, hlocal, hmove⟩ := State.move_local hm
    rw [hmove] at hstep
    obtain ⟨u, hu, hact⟩ := State.serve_next.1 hstep
    obtain ⟨hp, -, -, same, -⟩ := State.select_conn rising hu
    exact (hlocal.conn_other hact hp hj).trans (same j)

/-- Settles O55: both machines serve the same codec, and the move on it is local. -/
theorem instancesDoNotInteract : Obligations.InstancesDoNotInteract := by
  intro s s' t m rest rest' k hscript hscript' hm hcfg hconn hstep
  obtain ⟨act, hlocal, hmove⟩ := State.move_local hm
  rw [step_cons hscript, hmove] at hstep
  rw [step_cons hscript', hmove]
  obtain ⟨u, hu, hact⟩ := State.serve_next.1 hstep
  obtain ⟨hp, hcur, hc⟩ := State.select_served hu
  have hconn' : ({ s' with script := rest' } : State).conn k = some u.cur := hconn.symm.trans hcur
  obtain ⟨u', hu'⟩ := State.select_of_conn hconn'
  obtain ⟨hp', hcur', hc'⟩ := State.select_served hu'
  rw [State.serve_of_select hu']
  exact hlocal.conn_served (hc.trans (hcfg.trans hc'.symm)) (Option.some.inj (hcur'.symm.trans hconn')).symm hp hp' hact

/-- Settles O7: the codec is ready, and what OPSEL encodes is decoded. -/
theorem issueStepRunsDecodedInstruction : Obligations.IssueStepRunsDecodedInstruction := by
  intro s t k rest i hscript hsel hbusy howes hdec
  rw [step_cons hscript, State.move, State.serve_of_select hsel, State.issueNow, State.whenReady_ready hbusy howes,
    State.execDecoded_ok hdec]

/-- Settles O57: the readiness test by whether a reply is owed; what is issued then is refused for RQ_DEPTH only. -/
theorem nextTransactionWaitsForCollect : Obligations.NextTransactionWaitsForCollect := by
  intro s m rest k hscript hport hbusy hm
  have sel := State.select_self (s := { s with script := rest }) hport
  rw [step_cons hscript]
  refine ⟨fun howed => ?_, fun hnone => ?_⟩
  · have owes := Session.owesReply_iff.2 howed
    rcases hm with rfl | rfl <;> rw [State.move, State.serve_of_select sel]
    · exact State.whenReady_owing hbusy owes _
    · exact State.whenReady_owing hbusy owes _
  · have ready : s.cur.session.owesReply = false :=
      Bool.eq_false_iff.2 fun e => (Session.owesReply_iff.1 e).elim hnone
    rcases hm with rfl | rfl <;> rw [State.move, State.serve_of_select sel]
    · rw [State.issueNow_ready (s := { s with script := rest }) hbusy ready]
      have format := decodeOpsel_format s.cur.OPSEL
      exact ⟨fun e => (nomatch exec_opsel_refused format e), fun e => (nomatch exec_opsel_refused format e)⟩
    · rw [State.start, State.whenReady_ready (s := { s with script := rest }) hbusy ready]
      exact ⟨nofun, nofun⟩

end Sys2Proof.Machine
end

section
/-! SUPPORT. The four encodings in both directions (30_encoding.md R77, R79, R80, R82): what each decoder's operand
makes is well formed, of the decoder's format, and encoded as that operand; and what bytes `decode` reads it from. -/

namespace Sys2Proof.Machine

/-! ## Words and the rows with an operand -/

theorem bytes16_of_append (hi lo : Byte) : bytes16 (hi ++ lo) = [hi, lo] := by
  rw [bytes16, BitVec.extractLsb'_append_eq_left, BitVec.extractLsb'_append_eq_right]

/-- R80: a byte with none of its five upper bits set carries the operation select in the other three. -/
theorem eq_opselByte {b : Byte} (h : b.extractLsb' 3 5 = 0) : b = opselByte (b.extractLsb' 0 3) := by
  revert b
  decide

theorem unhandledCommand_iff {cmd : BitVec 16} :
    unhandledCommand cmd = true ↔
      cmd ≠ CMD_LOC_REPORT ∧ cmd ≠ CMD_BATCH_LOC ∧ cmd ≠ CMD_REGISTER ∧ cmd ≠ CMD_HEARTBEAT ∧
      cmd ≠ CMD_AUTH2 := by
  simp [unhandledCommand, CMD_LOC_REPORT, CMD_BATCH_LOC, CMD_REGISTER, CMD_HEARTBEAT, CMD_AUTH2, and_assoc]

theorem fallbackPartner_iff {x : Byte} : fallbackPartner x = true ↔ x ≠ ESC_ESC_CODE ∧ x ≠ ESC_FLAG_CODE := by
  simp [fallbackPartner, ESC_ESC_CODE, ESC_FLAG_CODE]

theorem decodeCommand_of_unhandled {cmd : BitVec 16} (h : unhandledCommand cmd = true) :
    decodeCommand cmd = .unrecognized cmd := by
  obtain ⟨h1, h2, h3, h4, h5⟩ := unhandledCommand_iff.1 h
  rw [decodeCommand, if_neg h1, if_neg h2, if_neg h3, if_neg h4, if_neg h5]

theorem decodePartner_of_fallback {x : Byte} (h : fallbackPartner x = true) : decodePartner x = .escOther x := by
  obtain ⟨h1, h2⟩ := fallbackPartner_iff.1 h
  rw [decodePartner, if_neg h2, if_neg h1]

/-! ## What the decoders make -/

/-- `word` is the encoding, in format `f`, of the well-formed instruction `i`. -/
structure Encodes (f : Format) (word : Bytes) (i : Instr) : Prop where
  wellFormed : i.wellFormed = true
  format : i.format = f
  encode : encode i = word

theorem decodeOpsel_encodes (op : BitVec 3) : Encodes .opsel3 [opselByte op] (decodeOpsel op) where
  wellFormed := by revert op; decide
  format := decodeOpsel_format op
  encode := by revert op; decide

theorem decodeCommand_encodes (cmd : BitVec 16) : Encodes .cmdid16 (bytes16 cmd) (decodeCommand cmd) := by
  unfold decodeCommand
  split_ifs with h1 h2 h3 h4 h5
  · exact h1 ▸ ⟨rfl, rfl, rfl⟩
  · exact h2 ▸ ⟨rfl, rfl, rfl⟩
  · exact h3 ▸ ⟨rfl, rfl, rfl⟩
  · exact h4 ▸ ⟨rfl, rfl, rfl⟩
  · exact h5 ▸ ⟨rfl, rfl, rfl⟩
  · exact ⟨unhandledCommand_iff.2 ⟨h1, h2, h3, h4, h5⟩, rfl, rfl⟩

theorem decodePartner_encodes (x : Byte) : Encodes .esc [ESC, x] (decodePartner x) := by
  unfold decodePartner
  split_ifs with hflag hesc
  · exact hflag ▸ ⟨rfl, rfl, rfl⟩
  · exact hesc ▸ ⟨rfl, rfl, rfl⟩
  · exact ⟨fallbackPartner_iff.2 ⟨hesc, hflag⟩, rfl, rfl⟩

theorem decodeReply_encodes {rc : BitVec 16} {i : Instr} (h : decodeReply rc = some i) :
    Encodes .reply (bytes16 rc) i := by
  unfold decodeReply at h
  split_ifs at h with hgeneral hregister
  · obtain rfl := Option.some.inj h
    exact hgeneral ▸ ⟨rfl, rfl, rfl⟩
  · obtain rfl := Option.some.inj h
    exact hregister ▸ ⟨rfl, rfl, rfl⟩

/-! ## What `decode` reads -/

theorem decode_cmdid16_append (cmd : BitVec 16) (rest : Bytes) :
    decode .cmdid16 (bytes16 cmd ++ rest) = .ok (decodeCommand cmd, rest) := by
  rw [bytes16, List.cons_append, List.singleton_append, decode, bytes16_append]

/-- Whatever `decode` reads is the encoding of what it makes, followed by the bytes it leaves. -/
theorem decode_encodes {f : Format} {B rest : Bytes} {i : Instr} (h : decode f B = .ok (i, rest)) :
    ∃ word, Encodes f word i ∧ word ++ rest = B := by
  match f, B with
  | .opsel3, b :: tail =>
    rw [decode] at h
    split at h
    · rename_i hb
      cases h
      exact ⟨_, decodeOpsel_encodes _, by rw [← eq_opselByte hb]; rfl⟩
    · cases h
  | .cmdid16, hi :: lo :: tail =>
    cases h
    exact ⟨_, decodeCommand_encodes _, by rw [bytes16_of_append]; rfl⟩
  | .esc, [b] =>
    rw [decode] at h
    split at h
    · rename_i hb
      cases h
      exact ⟨[ESC], ⟨rfl, rfl, rfl⟩, by rw [hb]; rfl⟩
    · cases h
  | .esc, b :: x :: tail =>
    rw [decode] at h
    split at h
    · rename_i hb
      cases h
      exact ⟨_, decodePartner_encodes x, by rw [hb]; rfl⟩
    · cases h
  | .reply, hi :: lo :: tail =>
    rw [decode] at h
    split at h
    · rename_i hj
      cases h
      exact ⟨_, decodeReply_encodes hj, by rw [bytes16_of_append]; rfl⟩
    · cases h
  | .opsel3, [] | .cmdid16, [] | .cmdid16, [_] | .esc, [] | .reply, [] | .reply, [_] => cases h

end Sys2Proof.Machine
end

section
/-! SUPPORT. The steps that run an instruction inside a byte-serial transaction (R77, R82, R171, R177), the escape
units on the two machines, and the two reply-building steps. -/

namespace Sys2Proof.Machine

/-! ## The byte-serial step -/

/-- A byte-serial step of a machine, scheduled or not, is the one of the codec it then serves. -/
theorem step_eq_runStep {s t : State} (h : (s.script = [] ∧ t = s) ∨
    ∃ k rest, s.script = .run k :: rest ∧ State.select k { s with script := rest } = some t) :
    step s = t.runStep := by
  rcases h with ⟨hnil, rfl⟩ | ⟨k, rest, hcons, hsel⟩
  · exact step_nil hnil
  · rw [step_cons hcons]
    exact State.serve_of_select hsel

theorem State.runStep_dispatch {s : State} (hb : s.cur.BUSY = true) (hp : s.cur.phase = .dispatch) :
    s.runStep = s.execDecoded .cmdid16 (bytes16 s.cur.H_CMD) := by
  simp [State.runStep, hb, hp]

theorem State.runStep_reply {s : State} {rc : BitVec 16} (hb : s.cur.BUSY = true) (hp : s.cur.phase = .reply rc) :
    s.runStep = s.execDecoded .reply (bytes16 rc) := by
  simp [State.runStep, hb, hp]

theorem State.runStep_sync {s : State} (hb : s.cur.BUSY = true) (hp : s.cur.phase = .sync) :
    s.runStep = s.runSync true := by
  simp [State.runStep, hb, hp]

theorem State.runStep_unstuff {s : State} (hb : s.cur.BUSY = true) (hp : s.cur.phase = .unstuff) :
    s.runStep = s.runSync false := by
  simp [State.runStep, hb, hp]

/-- R77: with an escape pending either machine runs the unit of IN that its 0x7D begins. -/
theorem State.runSync_escape {s : State} (sync : Bool) (h : s.cur.FS_STATE = FS_ESC) :
    s.runSync sync = s.execDecoded .esc s.cur.escapeBytes := if_pos h

/-! ## The machine an escape unit acts on -/

theorem Codec.syncing_of_sync {c : Codec} (h : c.phase = .sync) : c.syncing = true := by
  simp [Codec.syncing, h]

theorem Codec.syncing_of_ne {c : Codec} (h : c.phase ≠ .sync) : c.syncing = false := by
  simp [Codec.syncing, h]

/-! ## The reply-building steps -/

theorem slice_middle (A B C : Bytes) : slice (A ++ B ++ C) A.length (A.length + B.length) = B := by
  simp [slice]

section
variable {c : Codec} {dev seq cmd : Bytes}

/-- R242: DEV, SEQ and CMD are the ten bytes of IN. -/
theorem Codec.build8001Op_of_fields (h : c.IN = dev ++ seq ++ cmd) (hdev : dev.length = 6) (hseq : seq.length = 2)
    (hcmd : cmd.length = 2) :
    c.build8001Op = ({ c with OUT := build8001 dev seq cmd } : Codec).complete .ok := by
  have sDev : slice c.IN 0 6 = dev := by simpa [h, hdev] using slice_middle [] dev (seq ++ cmd)
  have sSeq : slice c.IN 6 8 = seq := by simpa [h, hdev, hseq] using slice_middle dev seq cmd
  have sCmd : slice c.IN 8 10 = cmd := by simpa [h, hdev, hseq, hcmd] using slice_middle (dev ++ seq) cmd []
  have len : c.NIN = 10 := by simp [Codec.NIN, h, hdev, hseq, hcmd]
  rw [Codec.build8001Op, if_neg (not_not.2 len), sDev, sSeq, sCmd]

/-- R243: DEV and SEQ are the eight bytes of IN. -/
theorem Codec.build8100Op_of_fields (h : c.IN = dev ++ seq) (hdev : dev.length = 6) (hseq : seq.length = 2) :
    c.build8100Op = ({ c with OUT := build8100 dev seq } : Codec).complete .ok := by
  have sDev : slice c.IN 0 6 = dev := by simpa [h, hdev] using slice_middle [] dev seq
  have sSeq : slice c.IN 6 8 = seq := by simpa [h, hdev, hseq] using slice_middle dev seq []
  have len : c.NIN = 8 := by simp [Codec.NIN, h, hdev, hseq]
  rw [Codec.build8100Op, if_neg (not_not.2 len), sDev, sSeq]

end

/-- R273: another length of IN is BAD_OPERAND before anything is computed. -/
theorem Codec.build8001Op_of_length {c : Codec} (h : c.NIN ≠ 10) : c.build8001Op = c.raise .badOperand := if_pos h

theorem Codec.build8100Op_of_length {c : Codec} (h : c.NIN ≠ 8) : c.build8100Op = c.raise .badOperand := if_pos h

/-- R271, R279: BAD_OPERAND leaves the host nothing to do. -/
theorem Codec.raise_badOperand (c : Codec) : c.raise .badOperand = Reference.raised c 4 [] := by
  simp [Codec.raise, Reference.raised, Status.code]

end Sys2Proof.Machine
end

section
/-! PROOFS. The statements about the encodings and the places instructions are fetched from (30_encoding.md). -/

namespace Sys2Proof.Machine

/-- Settles O5: row by row; the two rows with an operand by what sets it apart from the rows above. -/
theorem decodeOfEncodeIsIdentity : Obligations.DecodeOfEncodeIsIdentity := by
  intro i rest hw hend
  cases i with
  | unrecognized cmd =>
    calc decode .cmdid16 (bytes16 cmd ++ rest)
      _ = .ok (decodeCommand cmd, rest) := decode_cmdid16_append cmd rest
      _ = .ok (.unrecognized cmd, rest) := by rw [decodeCommand_of_unhandled hw]
  | escOther x =>
    calc decode .esc (ESC :: x :: rest)
      _ = .ok (decodePartner x, rest) := rfl
      _ = .ok (.escOther x, rest) := by rw [decodePartner_of_fallback hw]
  | escTrailing =>
    rw [hend rfl]
    rfl
  | _ => rfl

/-- Settles O6, by what `decode` reads. -/
theorem encodeOfDecodeIsIdentity : Obligations.EncodeOfDecodeIsIdentity := by
  intro f bytes rest i h
  obtain ⟨word, ⟨hw, hf, he⟩, hB⟩ := decode_encodes h
  exact ⟨hw, hf, he ▸ hB⟩

/-- Settles O32: the fields of IN, or a length that is none of theirs. -/
theorem replyStepResults : Obligations.ReplyStepResults := by
  refine ⟨fun s dev seq cmd hin hdev hseq hcmd => ?_, fun s dev seq hin hdev hseq => ?_, fun s i hi => ?_⟩
  · refine ⟨_, rfl, ?_⟩
    rw [Codec.build8001Op_of_fields hin hdev hseq hcmd]
    rfl
  · refine ⟨_, rfl, ?_⟩
    rw [Codec.build8100Op_of_fields hin hdev hseq]
    rfl
  · rcases hi with ⟨rfl, hlen⟩ | ⟨rfl, hlen⟩
    · refine ⟨_, rfl, ?_⟩
      rw [Codec.build8001Op_of_length hlen, Codec.raise_badOperand]
    · refine ⟨_, rfl, ?_⟩
      rw [Codec.build8100Op_of_length hlen, Codec.raise_badOperand]

/-- Settles O4: the decoder evaluated on each of the eleven words. -/
theorem specWordsDecode : Obligations.SpecWordsDecode :=
  ⟨rfl, rfl, rfl, rfl, rfl, rfl, rfl, rfl, rfl, rfl, rfl⟩

/-- Settles O8: the step is the byte-serial one, and each place decodes what stands there. -/
theorem serialStepRunsDecodedInstruction : Obligations.SerialStepRunsDecodedInstruction := by
  intro s t i more hrun hb
  rw [step_eq_runStep hrun]
  refine ⟨fun hp hdec => ?_, fun rc hp hdec => ?_, fun hp hesc hdec => ?_⟩
  · rw [State.runStep_dispatch hb hp, State.execDecoded_ok hdec]
  · rw [State.runStep_reply hb hp, State.execDecoded_ok hdec]
  · rcases hp with hp | hp
    · rw [State.runStep_unstuff hb hp, State.runSync_escape _ hesc]
      exact State.execDecoded_ok hdec
    · rw [State.runStep_sync hb hp, State.runSync_escape _ hesc]
      exact State.execDecoded_ok hdec

/-- Settles O29: the four units on PARSE's machine, and on UNSTUFF's. -/
theorem escapeUnitResults : Obligations.EscapeUnitResults := by
  intro s x
  refine ⟨fun hp => ?_, fun hp => ?_⟩
  · have syncing := Codec.syncing_of_sync hp
    simp only [exec, execEscFlag, execEscEsc, execEscOther, execEscTrailing, syncing]
    exact ⟨rfl, rfl, rfl, rfl⟩
  · have syncing := Codec.syncing_of_ne hp
    simp only [exec, execEscFlag, execEscEsc, execEscOther, execEscTrailing, syncing]
    exact ⟨rfl, rfl, rfl, rfl⟩

end Sys2Proof.Machine
end

section
/-! SUPPORT. How the serial machines treat what they do not read: the phase, the host's side and, in BCD2TS, the
accumulator pass through every byte step unchanged, and no byte step moves the request (R301). -/

namespace Sys2Proof.Machine

/-- The sequencer moves (log 3), no register does. -/
def Codec.withPhase (ph : Phase) (c : Codec) : Codec := { c with phase := ph }

/-- The BCD accumulator of a BCD2TS takes a value of its own (R35, log 6). -/
def Codec.withBcdAcc (a : BitVec 48) (c : Codec) : Codec := { c with BCD_ACC := a }

/-- R301: which phase a transaction starts in is in no register. -/
theorem Codec.begin_withPhase (ph ph' : Phase) (c : Codec) : (c.begin ph).withPhase ph' = c.begin ph' := rfl

/-- R301: a start keeps the request. -/
theorem Codec.IN_of_begin {ph ph' : Phase} {c d : Codec} (h : d.begin ph = c.begin ph') : d.IN = c.IN :=
  (congrArg Codec.IN h :)

/-! ## The machines that index IN themselves -/

/-- A byte machine whose cursor is the sequencer's (R105, R127, R152): it neither reads nor moves the phase, and
leaves the request and the host's side as they are. -/
structure Codec.Indexed (f : Codec → Byte → Codec) : Prop where
  phase : ∀ ph c b, f (c.withPhase ph) b = (f c b).withPhase ph
  request : ∀ ph c b, (f c b).begin ph = c.begin ph

theorem Codec.stuffByte_indexed : Codec.Indexed Codec.stuffByte := ⟨fun _ _ _ => rfl, fun _ _ _ => rfl⟩
theorem Codec.checksumByte_indexed : Codec.Indexed Codec.checksumByte := ⟨fun _ _ _ => rfl, fun _ _ _ => rfl⟩
theorem Codec.bcdByte_indexed : Codec.Indexed Codec.bcdByte := ⟨fun _ _ _ => rfl, fun _ _ _ => rfl⟩

/-- The machine on one more byte: from the fold over the first `i` bytes of IN to that over the first `i + 1`. -/
theorem Codec.Indexed.next {f : Codec → Byte → Codec} (hf : Codec.Indexed f) {c : Codec} {i : Nat} {ph ph' : Phase}
    (hi : i < c.NIN) (h : c = (c.IN.take i).foldl f (c.begin ph)) :
    let d := (f c (byteAt c.IN i)).withPhase ph'
    i + 1 ≤ d.NIN ∧ d = (d.IN.take (i + 1)).foldl f (d.begin ph') := by
  intro d
  have start : d.begin ph' = c.begin ph' := hf.request ph' c _
  have operand : d.IN = c.IN := Codec.IN_of_begin start
  refine ⟨hi.trans_eq (congrArg List.length operand).symm, ?_⟩
  calc d
    _ = f (((c.IN.take i).foldl f (c.begin ph)).withPhase ph') (byteAt c.IN i) := by rw [← h, hf.phase]
    _ = f ((c.IN.take i).foldl f (c.begin ph')) (byteAt c.IN i) := by
      rw [← Codec.begin_withPhase ph ph' c, List.foldl_hom (Codec.withPhase ph') (hf.phase ph')]
    _ = (d.IN.take (i + 1)).foldl f (d.begin ph') := by
      rw [start, operand, ← List.take_concat_get' _ _ hi, List.foldl_concat, byteAt_of_lt hi]

/-! ## The components of BCD2TS -/

theorem Codec.tsByte_withPhase (ph : Phase) (i : Nat) (b : Byte) (c : Codec) :
    (c.withPhase ph).tsByte i b = (c.tsByte i b).withPhase ph := by
  unfold Codec.tsByte
  split <;> rfl

theorem Codec.tsByte_withBcdAcc (a : BitVec 48) (i : Nat) (b : Byte) (c : Codec) :
    (c.withBcdAcc a).tsByte i b = (c.tsByte i b).withBcdAcc a := by
  unfold Codec.tsByte
  split <;> rfl

theorem Codec.tsByte_withSession (x : Session) (i : Nat) (b : Byte) (c : Codec) :
    (c.withSession x).tsByte i b = (c.tsByte i b).withSession x := by
  unfold Codec.tsByte
  split <;> rfl

theorem Codec.tsByte_begin (ph : Phase) (i : Nat) (b : Byte) (c : Codec) : (c.tsByte i b).begin ph = c.begin ph := by
  rw [Codec.tsByte_frame]
  rfl

/-- R103: the first `i` components of the date-time bytes `B`, each in its register. -/
def Codec.tsFields (B : Bytes) (i : Nat) (c : Codec) : Codec :=
  (List.range i).foldl (fun d j => d.tsByte j (byteAt B j)) c

theorem Codec.tsFields_IN (B : Bytes) (i : Nat) (c : Codec) : (c.tsFields B i).IN = c.IN :=
  List.foldlRecOn (motive := fun d : Codec => d.IN = c.IN) _ _ rfl fun d hd j _ => by
    rw [Codec.tsByte_frame]
    exact hd

theorem Codec.tsFields_succ (B : Bytes) (i : Nat) (c : Codec) :
    c.tsFields B (i + 1) = (c.tsFields B i).tsByte i (byteAt B i) := by
  rw [Codec.tsFields, List.range_succ, List.foldl_concat]
  rfl

theorem Codec.tsFields_withPhase (ph : Phase) (B : Bytes) (i : Nat) (c : Codec) :
    (c.withPhase ph).tsFields B i = (c.tsFields B i).withPhase ph :=
  List.foldl_hom (Codec.withPhase ph) fun d j => d.tsByte_withPhase ph j (byteAt B j)

theorem Codec.tsFields_withSession (x : Session) (B : Bytes) (i : Nat) (c : Codec) :
    (c.withSession x).tsFields B i = (c.tsFields B i).withSession x :=
  List.foldl_hom (Codec.withSession x) fun d j => d.tsByte_withSession x j (byteAt B j)

theorem Codec.Settled.tsFields {x : Session} {c : Codec} (h : c.Settled x) (B : Bytes) (i : Nat) :
    (c.tsFields B i).Settled x :=
  List.foldlRecOn (motive := fun d : Codec => d.Settled x) _ _ h fun d hd j _ => by
    rw [Codec.tsByte_frame]
    exact { hd with }

/-- R103, R35: one more component, whatever value it leaves in BCD_ACC. -/
theorem Codec.tsFields_next {c : Codec} {i : Nat} {a : BitVec 48}
    (h : c = ((c.begin (.bcd2ts i)).tsFields c.IN i).withBcdAcc c.BCD_ACC) :
    let d := ((c.tsByte i (byteAt c.IN i)).withBcdAcc a).withPhase (.bcd2ts (i + 1))
    d.IN = c.IN ∧ d = ((d.begin (.bcd2ts (i + 1))).tsFields d.IN (i + 1)).withBcdAcc d.BCD_ACC := by
  intro d
  have start : d.begin (.bcd2ts (i + 1)) = (c.begin (.bcd2ts i)).withPhase (.bcd2ts (i + 1)) := c.tsByte_begin ..
  have operand : d.IN = c.IN := Codec.IN_of_begin start
  have moved : c.tsByte i (byteAt c.IN i) =
      ((c.begin (.bcd2ts i)).tsFields c.IN (i + 1)).withBcdAcc c.BCD_ACC := by
    rw [Codec.tsFields_succ, ← Codec.tsByte_withBcdAcc, ← h]
  refine ⟨operand, ?_⟩
  rw [start, operand, Codec.tsFields_withPhase]
  exact (congrArg (fun e : Codec => (e.withBcdAcc a).withPhase (.bcd2ts (i + 1))) moved :)

/-! ## The scanning machine -/

theorem Codec.syncByte_begin (sync : Bool) (ph : Phase) (c : Codec) (b : Byte) :
    (c.syncByte sync b).begin ph = c.begin ph := by
  rw [Codec.syncByte_frame]
  rfl

theorem Codec.finishSync_begin (sync : Bool) (ph : Phase) (c : Codec) :
    (c.finishSync sync).begin ph = c.begin ph := by
  rw [Codec.finishSync_frame]
  rfl

theorem Codec.finishSync_of_notPending {c : Codec} (h : c.FS_STATE ≠ FS_ESC) (sync : Bool) : c.finishSync sync = c :=
  if_neg h

theorem Codec.syncAll_withSession (sync : Bool) (x : Session) (c : Codec) :
    (c.withSession x).syncAll sync = (c.syncAll sync).withSession x := by
  rw [Codec.syncAll, Codec.withSession_IN, Codec.foldl_withSession (Codec.syncByte_withSession sync),
    Codec.finishSync_withSession]
  rfl

theorem Codec.loadHeader_withSession {x : Session} {c d : Codec} (h : c.loadHeader = .ok d) :
    (c.withSession x).loadHeader = .ok (d.withSession x) := by
  unfold Codec.loadHeader at h ⊢
  split at h
  · cases h
  · rename_i hv
    split at h
    · cases h
    · rename_i hn
      cases h
      exact (if_neg hv).trans (if_neg hn)

/-- R175: the header step moves no part of the request. -/
theorem Codec.loadHeader_ok {c d : Codec} (h : c.loadHeader = .ok d) :
    d.phase = .dispatch ∧ ∀ ph, d.begin ph = c.begin ph := by
  rcases c.loadHeader_cases with ⟨-, hl⟩ | ⟨-, -, hl⟩ | ⟨-, -, hl⟩
  · cases hl.symm.trans h
  · cases hl.symm.trans h
  · cases hl.symm.trans h
    exact ⟨rfl, fun _ => rfl⟩

end Sys2Proof.Machine
end

section
/-! SUPPORT. Byte-serial progress (R105, R127, R128, R152, R171): what a codec on the track of its serial machine
is, and that every step of that machine, and every move of the host, leaves it on track. -/

namespace Sys2Proof.Machine

theorem Codec.onTrack_of_idle {c : Codec} (h : c.phase = .idle) : c.OnTrack := by
  simp only [Codec.OnTrack, h]

theorem Codec.scanned_start {sync : Bool} {ph : Phase} {c : Codec} (h : c = c.begin ph) : c.scanned sync ph := by
  have pos : c.IN_POS = 0 := congrArg (fun d : Codec => d.IN_POS) h
  refine .inl ?_
  rw [pos]
  exact h

/-- The phase of UNSTUFF's machine, or of PARSE's. -/
def scanPhase : Bool → Phase
  | true => .sync
  | false => .unstuff

theorem Codec.syncing_of_scanPhase {sync : Bool} {c : Codec} (h : c.phase = scanPhase sync) : c.syncing = sync := by
  rw [Codec.syncing, h]
  cases sync <;> rfl

theorem Codec.onTrack_of_scanned {sync : Bool} {c : Codec} (hph : c.phase = scanPhase sync)
    (h : c.scanned sync (scanPhase sync)) : c.OnTrack := by
  cases sync <;> simpa only [Codec.OnTrack, hph, scanPhase] using h

theorem Codec.onTrack_of_dispatch {c : Codec} (hph : c.phase = .dispatch)
    (h : ((c.begin .sync).syncAll true).loadHeader = .ok c) : c.OnTrack := by
  simpa only [Codec.OnTrack, hph] using h

/-- R126, R171: one more byte of a scan. -/
theorem Codec.scanned.syncByte {sync : Bool} {ph : Phase} {c : Codec} (h : c.scanned sync ph)
    (hpos : c.IN_POS < c.NIN) : (c.syncByte sync (byteAt c.IN c.IN_POS)).scanned sync ph := by
  rcases h with h | ⟨hend, -⟩
  · refine .inl ?_
    rw [Codec.syncByte_begin, Codec.syncByte_IN, Codec.syncByte_IN_POS, ← List.take_concat_get' _ _ hpos,
      List.foldl_concat, ← h, byteAt_of_lt hpos]
  · exact absurd hend hpos.ne

/-- R126: at the end of the bytes the finish makes of a scan what the whole machine makes of IN; a scan finished
already stays as it is. -/
theorem Codec.scanned.finishSync {sync : Bool} {ph : Phase} {c : Codec} (h : c.scanned sync ph)
    (hpos : c.IN_POS = c.NIN) : c.finishSync sync = (c.begin ph).syncAll sync := by
  rcases h with h | ⟨-, h⟩
  · rw [hpos, List.take_length] at h
    exact congrArg (Codec.finishSync sync) h
  · have settled := c.syncAll_settled sync ph
    rw [← h] at settled ⊢
    exact Codec.finishSync_of_notPending settled.notPending sync

/-- A scan behind IN_POS, or finished, is a running transaction. -/
theorem Codec.scanned.live {sync : Bool} {ph : Phase} {c : Codec} (h : c.scanned sync ph) : c.Live c.session := by
  rcases h with h | ⟨-, h⟩
  · have fits : (c.begin ph).IN_POS + (c.IN.take c.IN_POS).length ≤ (c.begin ph).NIN := by
      rw [Codec.begin_IN_POS, List.length_take, Nat.zero_add]
      exact Nat.min_le_right ..
    have live := (c.begin_settled ph).foldl_syncByte sync _ fits
    rwa [← h] at live
  · have settled := c.syncAll_settled sync ph
    rw [← h] at settled
    exact settled.toLive

theorem Codec.live_of_eq {x : Session} {c d : Codec} (h : c = d) (hd : d.Settled x) : c.Live x := h ▸ hd.toLive

/-- Every codec on track inside a transaction is running: its machine started from `Codec.begin` (R301). -/
theorem Codec.OnTrack.live {c : Codec} (h : c.OnTrack) (hp : c.phase ≠ .idle) : c.Live c.session := by
  have start := fun ph => c.begin_settled ph
  unfold Codec.OnTrack at h
  revert h hp
  cases c.phase with
  | idle => exact fun _ hp => absurd rfl hp
  | begin => exact fun h _ => Codec.live_of_eq h (start _)
  | unstuff => exact fun h _ => h.live
  | sync => exact fun h _ => h.live
  | stuff i =>
    exact fun ⟨_, h⟩ _ => Codec.live_of_eq h <|
      List.foldlRecOn _ Codec.stuffByte (start _) fun _ hd b _ => hd.stuffByte b
  | checksum i =>
    exact fun ⟨_, h⟩ _ => Codec.live_of_eq h <|
      List.foldlRecOn _ Codec.checksumByte (start _) fun _ hd b _ => hd.checksumByte b
  | bcd2dec i =>
    exact fun ⟨_, _, h⟩ _ => Codec.live_of_eq h <|
      List.foldlRecOn _ Codec.bcdByte (start _) fun _ hd b _ => hd.bcdByte b
  | bcd2ts i =>
    exact fun ⟨_, _, h⟩ _ => Codec.live_of_eq h { (start (.bcd2ts i)).tsFields c.IN i with }
  | dispatch =>
    intro h _
    rcases (c.syncAll_settled true .sync).loadHeader with ⟨-, hl⟩ | ⟨-, hl⟩ | ⟨d, -, hl, hd, -⟩
    · cases hl.symm.trans h
    · cases hl.symm.trans h
    · exact Codec.live_of_eq (Except.ok.inj (h.symm.trans hl)) hd
  | reply rc => exact fun h _ => Codec.live_of_eq h (start _)

/-- The host's side is on no track: it may move while a transaction runs (R280). -/
theorem Codec.OnTrack.withSession {c : Codec} (h : c.OnTrack) (x : Session) : (c.withSession x).OnTrack := by
  have moved {d : Codec} (hd : c = d) : c.withSession x = d.withSession x := congrArg (Codec.withSession x) hd
  have scanned {sync ph} (hs : c.scanned sync ph) : (c.withSession x).scanned sync ph := by
    unfold Codec.scanned
    rw [Codec.begin_withSession, Codec.withSession_IN, Codec.foldl_withSession (Codec.syncByte_withSession sync),
      Codec.syncAll_withSession]
    exact hs.imp moved fun ⟨hpos, hd⟩ => ⟨hpos, moved hd⟩
  unfold Codec.OnTrack at h ⊢
  rw [Codec.withSession_phase]
  revert h
  cases c.phase with
  | idle => exact id
  | begin => exact moved
  | unstuff => exact scanned
  | sync => exact scanned
  | stuff i =>
    rintro ⟨hi, h⟩
    exact ⟨hi, (moved h).trans (Codec.foldl_withSession Codec.stuffByte_withSession x _ _).symm⟩
  | checksum i =>
    rintro ⟨hi, h⟩
    exact ⟨hi, (moved h).trans (Codec.foldl_withSession Codec.checksumByte_withSession x _ _).symm⟩
  | bcd2dec i =>
    rintro ⟨hi, hn, h⟩
    exact ⟨hi, hn, (moved h).trans (Codec.foldl_withSession Codec.bcdByte_withSession x _ _).symm⟩
  | bcd2ts i =>
    rintro ⟨hi, hn, h⟩
    exact ⟨hi, hn, (moved h).trans
      (congrArg (Codec.withBcdAcc c.BCD_ACC) (Codec.tsFields_withSession x c.IN i _)).symm⟩
  | dispatch =>
    intro h
    have moved : ((c.begin .sync).withSession x).syncAll true = ((c.begin .sync).syncAll true).withSession x :=
      Codec.syncAll_withSession ..
    exact (congrArg Codec.loadHeader moved).trans (Codec.loadHeader_withSession h)
  | reply rc => exact moved

/-! ## The outcome of an action -/

/-- Whatever an action answers with, the codec it served is on track. -/
def Tracked : Result → Prop
  | .next t => t.cur.OnTrack
  | .fault _ => True
  | .refused _ => True

/-- Every end of a transaction is on track: the codec is idle (R25). -/
theorem tracked_put_of_idle {c : Codec} (h : c.phase = .idle) (s : State) : Tracked (s.put c) :=
  Codec.onTrack_of_idle h

theorem tracked_putComposite {c : Codec} (h : c.phase = .idle) (s : State) : Tracked (s.putComposite c) :=
  Codec.onTrack_of_idle (c := { c with CS_ACC := _, BCD_ACC := _ }) h

theorem tracked_putParse {c : Codec} (h : c.phase = .idle) (s : State) : Tracked (s.putParse c) := by
  unfold State.putParse
  split
  · exact tracked_putComposite (c := c.withSession (c.session.owe c.duties)) h s
  · trivial

theorem Codec.Acted.phase {c e : Codec} (h : c.Acted e) : e.phase = .idle := by
  cases h <;> rfl

theorem tracked_exec_action {i : Instr} (hi : i.format = .cmdid16) (s : State) : Tracked (exec i s) := by
  obtain ⟨e, he, hact⟩ := exec_action hi s
  rw [he]
  exact tracked_putParse hact.phase s

theorem tracked_exec_operation {i : Instr} (hi : i.format = .opsel3) (s : State) : Tracked (exec i s) := by
  by_cases hp : i = .parse
  · subst hp
    rcases exec_parse s with ⟨-, he⟩ | ⟨d, e, -, he, -, hact⟩ <;> rw [he]
    · exact tracked_putParse rfl s
    · exact tracked_putParse hact.phase s
  · obtain ⟨c, n, he, hdone⟩ := exec_operation hi hp s
    rw [he]
    exact Codec.onTrack_of_idle hdone.phase

theorem Codec.build8001Op_phase (c : Codec) : c.build8001Op.phase = .idle := by
  unfold Codec.build8001Op
  split <;> rfl

theorem Codec.build8100Op_phase (c : Codec) : c.build8100Op.phase = .idle := by
  unfold Codec.build8100Op
  split <;> rfl

/-- R82: only the two reply rows are ever read at the reply step. -/
theorem tracked_execDecoded_reply (B : Bytes) (s : State) : Tracked (s.execDecoded .reply B) := by
  unfold State.execDecoded
  split
  · rename_i i rest hdec
    obtain ⟨word, ⟨-, hf, -⟩, -⟩ := decode_encodes hdec
    cases i with
    | reply8001 => exact tracked_putComposite s.cur.build8001Op_phase s
    | reply8100 => exact tracked_putComposite s.cur.build8100Op_phase s
    | _ => cases hf
  · trivial

theorem tracked_whenReady {s : State} {issued : Result} (h : Tracked issued) :
    Tracked (s.whenReady issued) := by
  cases hr : s.whenReady issued with
  | next t =>
    obtain ⟨-, -, rfl⟩ := State.whenReady_next.1 hr
    exact h
  | fault f => trivial
  | refused r => trivial

/-! ## The byte-serial steps -/

section
variable {s : State}

/-- R80, R273: the operation begins with its machine at the start, or ends. -/
theorem tracked_beginOp (h : s.cur = s.cur.begin .begin) : Tracked s.beginOp := by
  have begun (ph : Phase) : s.cur.withPhase ph = (s.cur.withPhase ph).begin ph := congrArg (Codec.withPhase ph) h
  unfold State.beginOp
  dsimp only
  split_ifs with h0 h1 h2 h3 hlen h4 hsix h5 h6
  · exact Codec.scanned_start (begun .unstuff)
  · exact ⟨Nat.zero_le _, begun (.stuff 0)⟩
  · exact ⟨Nat.zero_le _, begun (.checksum 0)⟩
  · exact tracked_put_of_idle rfl s
  · exact ⟨Nat.zero_le _, not_lt.1 hlen, begun (.bcd2dec 0)⟩
  · exact tracked_putComposite rfl s
  · exact ⟨Nat.zero_le _, not_not.1 hsix, congrArg (Codec.withBcdAcc s.cur.BCD_ACC) (begun (.bcd2ts 0))⟩
  · exact Codec.scanned_start (begun .sync)
  · exact begun (.reply ACK_GENERAL)
  · exact begun (.reply ACK_REGISTER)

/-- R105, R127, R152: a machine that indexes IN itself takes one more byte. -/
theorem tracked_stuffStep {i : Nat} (h : s.cur = (s.cur.IN.take i).foldl Codec.stuffByte (s.cur.begin (.stuff i))) :
    Tracked (s.stuffStep i) := by
  unfold State.stuffStep
  split
  · rename_i hi
    exact Codec.stuffByte_indexed.next hi h
  · exact tracked_put_of_idle rfl s

theorem tracked_checksumStep {i : Nat}
    (h : s.cur = (s.cur.IN.take i).foldl Codec.checksumByte (s.cur.begin (.checksum i))) :
    Tracked (s.checksumStep i) := by
  unfold State.checksumStep
  split
  · rename_i hi
    exact Codec.checksumByte_indexed.next hi h
  · exact tracked_put_of_idle rfl s

theorem tracked_bcd2decStep {i : Nat} (hn : s.cur.NIN ≤ BCD_MAX_BYTES)
    (h : s.cur = (s.cur.IN.take i).foldl Codec.bcdByte (s.cur.begin (.bcd2dec i))) :
    Tracked (s.bcd2decStep i) := by
  unfold State.bcd2decStep
  split
  · rename_i hi
    obtain ⟨hi', h'⟩ := Codec.bcdByte_indexed.next (ph' := .bcd2dec (i + 1)) hi h
    exact ⟨hi', hn, h'⟩
  · exact tracked_put_of_idle rfl s

/-- R103, R35: one more component, and a free value in BCD_ACC. -/
theorem tracked_bcd2tsStep {i : Nat} (hn : s.cur.NIN = 6)
    (h : s.cur = ((s.cur.begin (.bcd2ts i)).tsFields s.cur.IN i).withBcdAcc s.cur.BCD_ACC) :
    Tracked (s.bcd2tsStep i) := by
  unfold State.bcd2tsStep
  split
  · rename_i hi
    obtain ⟨operand, track⟩ := Codec.tsFields_next (a := Config.freeBcdAcc s.frees) h
    exact ⟨hi, (congrArg List.length operand).trans hn, track⟩
  · exact tracked_putComposite rfl s

/-- R172, R175: the header step loads the header of a finished scan, or ends. -/
theorem tracked_headerStep (h : s.cur = (s.cur.begin .sync).syncAll true) : Tracked s.headerStep := by
  unfold State.headerStep
  split
  · exact tracked_putParse rfl s
  · rename_i d hd
    obtain ⟨hph, start⟩ := Codec.loadHeader_ok hd
    exact Codec.onTrack_of_dispatch hph (by rw [start, ← h, hd])

/-- R126, R171: one step of a scanning machine, from its next byte, its pending escape or its end. -/
theorem tracked_runSync {sync : Bool} (hph : s.cur.phase = scanPhase sync)
    (h : s.cur.scanned sync (scanPhase sync)) : Tracked (s.runSync sync) := by
  have syncing : s.cur.syncing = sync := Codec.syncing_of_scanPhase hph
  have live := h.live
  by_cases hpos : s.cur.IN_POS < s.cur.NIN
  · rw [State.runSync_byte syncing live.fsLegal hpos]
    exact Codec.onTrack_of_scanned (by rwa [Codec.syncByte_frame]) (h.syncByte hpos)
  · have done : s.cur.IN_POS = s.cur.NIN := le_antisymm live.cursor (not_lt.1 hpos)
    have finish := h.finishSync done
    by_cases hesc : s.cur.FS_STATE = FS_ESC
    · rw [State.runSync_finish syncing done.ge hesc]
      refine Codec.onTrack_of_scanned (by rwa [Codec.finishSync_frame]) (.inr ⟨?_, ?_⟩)
      · rw [Codec.finishSync_frame]
        exact done
      · rw [Codec.finishSync_begin]
        exact finish
    · rw [State.runSync_end live.fsLegal done.ge hesc]
      rw [Codec.finishSync_of_notPending hesc] at finish
      cases sync with
      | true => exact tracked_headerStep finish
      | false => exact tracked_put_of_idle rfl s

/-- Every byte-serial step, by the place the codec stands at. -/
theorem tracked_runStep (h : s.cur.OnTrack) : Tracked s.runStep := by
  unfold State.runStep
  split
  · exact h
  · have track := h
    unfold Codec.OnTrack at track
    revert track
    cases hph : s.cur.phase with
    | idle => exact fun _ => h
    | begin => exact tracked_beginOp
    | unstuff => exact tracked_runSync hph
    | stuff i => exact fun ⟨_, hi⟩ => tracked_stuffStep hi
    | checksum i => exact fun ⟨_, hi⟩ => tracked_checksumStep hi
    | bcd2dec i => exact fun ⟨_, hn, hi⟩ => tracked_bcd2decStep hn hi
    | bcd2ts i => exact fun ⟨_, hn, hi⟩ => tracked_bcd2tsStep hn hi
    | sync => exact tracked_runSync hph
    | dispatch =>
      intro _
      rw [State.execDecoded_ok (decode_cmdid16_bytes16 _)]
      exact tracked_exec_action (decodeCommand_format _) s
    | reply rc => exact fun _ => tracked_execDecoded_reply _ s

/-! ## The moves -/

/-- R27, R304: the host writes the request only where no transaction runs. -/
theorem tracked_load (h : s.cur.OnTrack) (op : BitVec 3) (operand : Bytes) : Tracked (s.load op operand) := by
  cases hl : s.load op operand with
  | next t =>
    obtain ⟨hb, -, x, rfl, -, -⟩ := State.load_next hl
    refine Codec.onTrack_of_idle ?_
    by_contra hp
    exact Bool.false_ne_true (hb.symm.trans (h.live hp).running)
  | fault f => trivial
  | refused r => trivial

theorem tracked_arrive (h : s.cur.OnTrack) (payload : Bytes) : Tracked (s.arrive payload) := by
  unfold State.arrive
  split
  · exact h.withSession _
  · trivial

theorem tracked_collect (h : s.cur.OnTrack) (k : Nat) : Tracked (s.collect k) := by
  rcases State.collect_cases k s with ⟨-, he⟩ | ⟨d, rest, -, he⟩ <;> rw [he]
  · exact h
  · exact h.withSession _

theorem tracked_issueNow (s : State) : Tracked s.issueNow :=
  tracked_whenReady <| by
    rw [State.execDecoded_ok (decode_opselByte _)]
    exact tracked_exec_operation (decodeOpsel_format _) s

theorem tracked_start (s : State) : Tracked s.start :=
  have started : s.cur.begin .begin = (s.cur.begin .begin).begin .begin := rfl
  tracked_whenReady (issued := s.put (s.cur.begin .begin)) started

end

end Sys2Proof.Machine
end

section
/-! SUPPORT. A property of every codec the machine holds (log 1): who is served, and in what order the others stand,
does not matter to it, and a move can break it only in the codec served. -/

namespace Sys2Proof.Machine

section
variable {P : Codec → Prop} {s t : State}

theorem State.EveryConn.parked (h : s.EveryConn P) : ∀ p ∈ s.parked, P p.2 := by
  unfold State.parked
  split
  · exact h.2
  · intro p hp
    rcases mem_insertConn hp with rfl | hp
    · exact h.1
    · exact h.2 p hp

theorem State.EveryConn.select (h : s.EveryConn P) {k : Nat} (hs : s.select k = some t) : t.EveryConn P := by
  unfold State.select at hs
  split at hs
  · exact Option.some.inj hs ▸ h
  · split at hs
    · cases hs
    · rename_i c hc
      obtain rfl := Option.some.inj hs
      exact ⟨h.2 _ (findConn_mem hc), fun p hp => h.parked p (mem_removeConn.1 hp).1⟩

/-- A local action keeps the property where it keeps it of the codec it serves. -/
theorem State.EveryConn.of_local (h : s.EveryConn P) {act : State → Result} (hl : State.Local act)
    (hact : act s = .next t) (ht : P t.cur) : t.EveryConn P := by
  obtain ⟨-, hothers, -⟩ := State.Agree.of_next (hact ▸ hl s s)
  exact ⟨ht, hothers ▸ h.2⟩

end

/-! ## Progress of every codec -/

section
variable {s t : State}

theorem State.EveryConn.tracked (h : s.EveryConn Codec.OnTrack) {act : State → Result} (hl : State.Local act)
    (ht : s.cur.OnTrack → Tracked (act s)) (hact : act s = .next t) : t.EveryConn Codec.OnTrack :=
  h.of_local hl hact (by have := ht h.1; rwa [hact] at this)

theorem State.EveryConn.serve_tracked (h : s.EveryConn Codec.OnTrack) {k : Nat} {act : State → Result}
    (hl : State.Local act) (ht : ∀ u : State, u.cur.OnTrack → Tracked (act u)) (hs : s.serve k act = .next t) :
    t.EveryConn Codec.OnTrack := by
  obtain ⟨u, hu, hact⟩ := State.serve_next.1 hs
  exact (h.select hu).tracked hl (ht u) hact

/-- Every move, on whatever connection, keeps every codec on track. -/
theorem State.EveryConn.move_tracked (h : s.EveryConn Codec.OnTrack) {m : Move} (hm : State.move m s = .next t) :
    t.EveryConn Codec.OnTrack := by
  have reset : Codec.reset.OnTrack := Codec.onTrack_of_idle rfl
  cases m with
  | openConn k =>
    obtain rfl := State.openConn_next hm
    exact ⟨reset, h.parked⟩
  | closeConn k =>
    obtain ⟨u, hu, hact⟩ := State.serve_next.1 hm
    obtain rfl := Host.Outcome.next.inj hact
    exact ⟨reset, (h.select hu).2⟩
  | arrive k payload => exact h.serve_tracked (State.arrive_local payload) (fun _ hu => tracked_arrive hu payload) hm
  | load k op operand => exact h.serve_tracked (State.load_local op operand) (fun _ hu => tracked_load hu op operand) hm
  | issue k => exact h.serve_tracked State.issueNow_local (fun u _ => tracked_issueNow u) hm
  | start k => exact h.serve_tracked State.start_local (fun u _ => tracked_start u) hm
  | run k => exact h.serve_tracked State.runStep_local (fun _ hu => tracked_runStep hu) hm
  | collect k => exact h.serve_tracked (State.collect_local k) (fun _ hu => tracked_collect hu k) hm

end

end Sys2Proof.Machine
end

section
/-! SUPPORT. The value of BCD bytes (40_bcd.md R100 to R102): one byte at the end, the bounds for any bytes and for
decimal ones, and what six bytes fit. -/

namespace Sys2Proof.Machine

theorem bcdPair_eq (b : Byte) : bcdPair b = b.toNat / 16 * 10 + b.toNat % 16 := by
  have := b.isLt
  simp only [bcdPair, BitVec.extractLsb'_toNat, Nat.shiftRight_eq_div_pow]
  omega

/-- R102: a byte with two decimal nibbles. -/
theorem bcdPair_le_of_digits {b : Byte} (h : b.toNat / 16 ≤ 9 ∧ b.toNat % 16 ≤ 9) : bcdPair b ≤ 99 := by
  rw [bcdPair_eq]
  omega

theorem bcdToDecimal_concat (B : Bytes) (b : Byte) : bcdToDecimal (B ++ [b]) = bcdToDecimal B * 100 + bcdPair b :=
  List.foldl_concat ..

/-- The geometric sum behind R102, for pair values up to `m`. -/
theorem bcdToDecimal_bound {m : Nat} (B : Bytes) (h : ∀ b ∈ B, bcdPair b ≤ m) :
    99 * bcdToDecimal B + m ≤ m * 100 ^ B.length := by
  induction B using List.reverseRecOn with
  | nil => simp [bcdToDecimal]
  | append_singleton B b ih =>
    have before := ih fun x hx => h x (List.mem_append_left _ hx)
    have last : bcdPair b ≤ m := h b (by simp)
    rw [bcdToDecimal_concat, List.length_append, List.length_singleton, pow_succ, ← mul_assoc]
    omega

theorem bcdToDecimal_bound_any (B : Bytes) : 99 * bcdToDecimal B + 165 ≤ 165 * 100 ^ B.length :=
  bcdToDecimal_bound B fun b _ => bcdPair_le b

/-- R102: six bytes fit 41 bits, so that no accumulator of 48 bits wraps. -/
theorem bcdToDecimal_lt {B : Bytes} (h : B.length ≤ 6) : bcdToDecimal B < 2 ^ 41 := by
  have bound := bcdToDecimal_bound_any B
  have len : 100 ^ B.length ≤ 100 ^ 6 := Nat.pow_le_pow_right (by decide) h
  omega

/-! ## The serial accumulators (R105, R152) -/

theorem Codec.foldl_checksumByte_CS_ACC (B : Bytes) (c : Codec) :
    (B.foldl Codec.checksumByte c).CS_ACC = B.foldl (fun acc b => acc ^^^ b) c.CS_ACC :=
  (List.foldl_hom Codec.CS_ACC fun _ _ => rfl).symm

/-- R105: the accumulator is the value on naturals, taken into its 48 bits. -/
theorem Codec.foldl_bcdByte_BCD_ACC (B : Bytes) {c : Codec} (h : c.BCD_ACC = 0) :
    (B.foldl Codec.bcdByte c).BCD_ACC = BitVec.ofNat 48 (bcdToDecimal B) := by
  induction B using List.reverseRecOn with
  | nil => exact h
  | append_singleton B b ih =>
    rw [List.foldl_concat, Codec.bcdByte_BCD_ACC, ih, bcdToDecimal_concat, BitVec.ofNat_add, BitVec.ofNat_mul]
    rfl

theorem Codec.foldl_bcdByte_toNat {B : Bytes} {c : Codec} (h : c.BCD_ACC = 0) (hn : B.length ≤ 6) :
    (B.foldl Codec.bcdByte c).BCD_ACC.toNat = bcdToDecimal B := by
  have fits := bcdToDecimal_lt hn
  rw [Codec.foldl_bcdByte_BCD_ACC B h, BitVec.toNat_ofNat]
  omega

/-- The frame of the serial form: only the accumulator moves. -/
theorem Codec.foldl_bcdByte_frame (B : Bytes) (c : Codec) :
    B.foldl Codec.bcdByte c = c.withBcdAcc (B.foldl Codec.bcdByte c).BCD_ACC :=
  List.foldlRecOn (motive := fun d : Codec => d = c.withBcdAcc d.BCD_ACC) B Codec.bcdByte rfl
    fun _ h b _ => congrArg (fun d : Codec => d.bcdByte b) h

/-! ## The two operations -/

theorem execBcd2dec_of_length {s : State} (h : s.cur.NIN ≤ 6) :
    execBcd2dec s = s.put (s.cur.IN.foldl Codec.bcdByte (s.cur.begin (.bcd2dec 0))).bcdDone :=
  if_neg (not_lt.2 h)

theorem execBcd2dec_of_long {s : State} (h : 6 < s.cur.NIN) :
    execBcd2dec s = s.put ((s.cur.begin (.bcd2dec 0)).raise .badOperand) := if_pos h

theorem execBcd2ts_of_length {s : State} (h : s.cur.NIN = 6) :
    let t := (List.range 6).foldl State.tsStep { s with cur := s.cur.begin (.bcd2ts 0) }
    execBcd2ts s = t.putComposite (t.cur.complete .ok) := if_neg (not_not.2 h)

theorem execBcd2ts_of_other {s : State} (h : s.cur.NIN ≠ 6) :
    execBcd2ts s = ({ s with cur := s.cur.begin (.bcd2ts 0) } : State).putComposite
      ((s.cur.begin (.bcd2ts 0)).raise .badOperand) := if_pos h

/-- R103: the steps of BCD2TS fill the components from IN, whatever they leave in BCD_ACC (R35). -/
theorem State.tsFold_cur (i : Nat) (s : State) :
    ∃ a, ((List.range i).foldl State.tsStep s).cur = (s.cur.tsFields s.cur.IN i).withBcdAcc a := by
  induction i with
  | zero => exact ⟨s.cur.BCD_ACC, rfl⟩
  | succ i ih =>
    obtain ⟨a, ha⟩ := ih
    have operand : ((s.cur.tsFields s.cur.IN i).withBcdAcc a).IN = s.cur.IN := Codec.tsFields_IN ..
    refine ⟨Config.freeBcdAcc ((List.range i).foldl State.tsStep s).frees, ?_⟩
    rw [List.range_succ, List.foldl_concat, State.tsStep, ha, operand, Codec.tsByte_withBcdAcc, Codec.tsFields_succ]
    rfl

/-- R103: six bytes, each in its register. -/
theorem execBcd2ts_of_six {s : State} {y mo d h mi sec : Byte} (hin : s.cur.IN = [y, mo, d, h, mi, sec]) :
    ∃ cs a n, execBcd2ts s = .next { s with
      frees := n
      cur := { Reference.started s.cur with
        TS_Y := bcdYear y, TS_MO := bcdField mo, TS_D := bcdField d
        TS_H := bcdField h, TS_MI := bcdField mi, TS_S := bcdField sec
        CS_ACC := cs, BCD_ACC := a } } := by
  have len : s.cur.NIN = 6 := congrArg List.length hin
  obtain ⟨a, ha⟩ := State.tsFold_cur 6 { s with cur := s.cur.begin (.bcd2ts 0) }
  rw [execBcd2ts_of_length len, State.tsFold_frame, ha, Codec.begin_IN, hin]
  exact ⟨_, _, _, rfl⟩

end Sys2Proof.Machine
end

section
/-! PROOFS. The statements about the BCD codec and the serial machines (40_bcd.md). -/

namespace Sys2Proof.Machine

/-- Settles O51: the byte-serial step of the codec served, or the scheduled move. -/
theorem stepKeepsInstancesOnTrack : Obligations.StepKeepsInstancesOnTrack := by
  intro s t h hs
  cases hscript : s.script with
  | nil =>
    rw [step_nil hscript] at hs
    exact h.tracked State.runStep_local tracked_runStep hs
  | cons m rest =>
    rw [step_cons hscript] at hs
    exact State.EveryConn.move_tracked (s := { s with script := rest }) h hs

/-- Settles O12: the accumulator of the serial form goes to RESULT, or the length check raises. -/
theorem bcd2decResult : Obligations.Bcd2decResult := by
  intro s
  refine ⟨fun hn => ⟨_, Codec.foldl_bcdByte_toNat (c := s.cur.begin (.bcd2dec 0)) rfl hn, ?_⟩, fun hn => ?_⟩
  · rw [exec, execBcd2dec_of_length hn, Codec.foldl_bcdByte_frame]
    rfl
  · rw [exec, execBcd2dec_of_long hn]
    rfl

/-- Settles O13: the components six bytes leave, or the length check raises. -/
theorem bcd2tsResult : Obligations.Bcd2tsResult := by
  refine ⟨fun s y mo d h mi sec hin => ?_, fun s hn => ?_⟩
  · obtain ⟨cs, a, n, he⟩ := execBcd2ts_of_six hin
    exact ⟨_, he, bcdYear_toNat y, bcdField_toNat mo, bcdField_toNat d, bcdField_toNat h, bcdField_toNat mi,
      bcdField_toNat sec, rfl, rfl, rfl⟩
  · rw [exec, execBcd2ts_of_other hn]
    exact ⟨_, rfl, rfl⟩

/-- Settles O39: each accumulator as the fold of its function. -/
theorem serialAccumulators : Obligations.SerialAccumulators := by
  refine ⟨fun c B h => ?_, fun c B h hn => Codec.foldl_bcdByte_toNat h hn⟩
  rw [Codec.foldl_checksumByte_CS_ACC, h]
  rfl

/-- Settles O40: the geometric bound with decimal pairs, with any pairs, and for six bytes. -/
theorem bcdWidthLaw : Obligations.BcdWidthLaw := by
  refine ⟨fun B h => ?_, fun B => ?_, fun B => bcdToDecimal_lt⟩
  · have bound := bcdToDecimal_bound B fun b hb => bcdPair_le_of_digits (h b hb)
    have base : 10 ^ (2 * B.length) = 100 ^ B.length := pow_mul 10 2 B.length
    omega
  · have bound := bcdToDecimal_bound_any B
    rw [Nat.le_div_iff_mul_le (by decide)]
    omega

end Sys2Proof.Machine
end

section
/-! SUPPORT. The stuffing functions (41_stuffing.md R120 to R124): the scan of `unstuff` as an induction, what one
unit decodes to, what one byte is stuffed to, and the laws of both. -/

namespace Sys2Proof.Machine

/-! ## The scan of `unstuff` -/

/-- R120, R121: the scan reads an unescaped byte, an escape with its partner, or a last escape without one. -/
theorem scan_induction {motive : Bytes → Prop} (nil : motive []) (trailing : motive [ESC])
    (plain : ∀ b rest, b ≠ ESC → motive rest → motive (b :: rest))
    (escape : ∀ x rest, motive rest → motive (ESC :: x :: rest)) : ∀ Y, motive Y
  | [] => nil
  | [b] => by
    by_cases hb : b = ESC
    · exact hb ▸ trailing
    · exact plain b [] hb nil
  | b :: x :: rest => by
    by_cases hb : b = ESC
    · exact hb ▸ escape x rest (scan_induction nil trailing plain escape rest)
    · exact plain b (x :: rest) hb (scan_induction nil trailing plain escape (x :: rest))

/-- R120: what an escape and its partner `x` decode to. -/
def unitBytes (x : Byte) : Bytes :=
  if x = ESC_FLAG_CODE then [FLAG] else if x = ESC_ESC_CODE then [ESC] else [ESC, x]

theorem unstuff_unit (x : Byte) (rest : Bytes) : unstuff (ESC :: x :: rest) = unitBytes x ++ unstuff rest :=
  unstuff_escape x rest

/-- R122: only the units `7D 01` and `7D 02` decode to fewer bytes than they have. -/
theorem unitBytes_length (x : Byte) : (unitBytes x).length = if x = 0x01 ∨ x = 0x02 then 1 else 2 := by
  by_cases hflag : x = ESC_FLAG_CODE
  · rw [unitBytes, if_pos hflag, if_pos (.inr hflag)]
    rfl
  · by_cases hesc : x = ESC_ESC_CODE
    · rw [unitBytes, if_neg hflag, if_pos hesc, if_pos (.inl hesc)]
      rfl
    · rw [unitBytes, if_neg hflag, if_neg hesc]
      exact (if_neg (not_or.2 ⟨hesc, hflag⟩)).symm

theorem hasCodeUnit_plain {b : Byte} (h : b ≠ ESC) (rest : Bytes) :
    Reference.hasCodeUnit (b :: rest) = Reference.hasCodeUnit rest := by
  cases rest with
  | nil => rfl
  | cons x rest => exact if_neg h

theorem hasCodeUnit_unit (x : Byte) (rest : Bytes) :
    Reference.hasCodeUnit (ESC :: x :: rest) = if x = 0x01 ∨ x = 0x02 then true else Reference.hasCodeUnit rest :=
  if_pos rfl

/-- R122: unit by unit of the scan. -/
theorem unstuff_length (Y : Bytes) : (unstuff Y).length ≤ Y.length ∧
    ((unstuff Y).length = Y.length ↔ Reference.hasCodeUnit Y = false) := by
  induction Y using scan_induction with
  | nil => exact ⟨le_rfl, iff_of_true rfl rfl⟩
  | trailing => exact ⟨le_rfl, iff_of_true rfl rfl⟩
  | plain b rest hb ih =>
    rw [unstuff_plain hb, hasCodeUnit_plain hb, List.length_cons, List.length_cons, Nat.add_le_add_iff_right,
      Nat.add_right_cancel_iff]
    exact ih
  | escape x rest ih =>
    obtain ⟨le, eq⟩ := ih
    rw [unstuff_unit, hasCodeUnit_unit, List.length_append, unitBytes_length, List.length_cons, List.length_cons]
    split
    · exact ⟨by omega, iff_of_false (by omega) (by decide)⟩
    · exact ⟨by omega, Iff.trans (by omega) eq⟩

/-! ## Stuffing a byte -/

/-- R123: everything one byte can be stuffed to. -/
theorem stuffUnit_cases (b : Byte) :
    (b = FLAG ∧ stuffUnit b = [ESC, ESC_FLAG_CODE]) ∨ (b = ESC ∧ stuffUnit b = [ESC, ESC_ESC_CODE]) ∨
      (b ≠ FLAG ∧ b ≠ ESC ∧ stuffUnit b = [b]) := by
  unfold stuffUnit
  split_ifs with hflag hesc
  · exact .inl ⟨hflag, rfl⟩
  · exact .inr (.inl ⟨hesc, rfl⟩)
  · exact .inr (.inr ⟨hflag, hesc, rfl⟩)

/-- R124, for one byte: its unit decodes to it. -/
theorem unstuff_stuffUnit (b : Byte) (rest : Bytes) : unstuff (stuffUnit b ++ rest) = b :: unstuff rest := by
  rcases stuffUnit_cases b with ⟨rfl, h⟩ | ⟨rfl, h⟩ | ⟨-, hesc, h⟩
  · rw [h]
    exact unstuff_unit ESC_FLAG_CODE rest
  · rw [h]
    exact unstuff_unit ESC_ESC_CODE rest
  · rw [h]
    exact unstuff_plain hesc rest

theorem stuffUnit_length (b : Byte) :
    (stuffUnit b).length = 1 + [b].count FLAG + [b].count ESC ∧ (stuffUnit b).length ≤ 2 := by
  rcases stuffUnit_cases b with ⟨rfl, h⟩ | ⟨rfl, h⟩ | ⟨hflag, hesc, h⟩
  · rw [h]
    decide
  · rw [h]
    decide
  · rw [h, List.count_singleton, List.count_singleton]
    simp [hflag, hesc]

theorem flag_notMem_stuffUnit (b : Byte) : FLAG ∉ stuffUnit b := by
  rcases stuffUnit_cases b with ⟨-, h⟩ | ⟨-, h⟩ | ⟨hflag, -, h⟩
  · rw [h]
    decide
  · rw [h]
    decide
  · rw [h, List.mem_singleton]
    exact hflag.symm

/-! ## Stuffing a sequence -/

theorem unstuff_stuff (X : Bytes) : unstuff (stuff X) = X := by
  induction X with
  | nil => rfl
  | cons b rest ih => rw [stuff_cons, unstuff_stuffUnit, ih]

/-- R123: byte by byte. -/
theorem stuff_length (X : Bytes) :
    (stuff X).length = X.length + X.count FLAG + X.count ESC ∧ (stuff X).length ≤ 2 * X.length := by
  induction X with
  | nil => exact ⟨rfl, le_rfl⟩
  | cons b rest ih =>
    obtain ⟨unit, short⟩ := stuffUnit_length b
    rw [stuff_cons, List.length_append, List.length_cons, ← List.singleton_append, List.count_append,
      List.count_append]
    omega

theorem flag_notMem_stuff (X : Bytes) : FLAG ∉ stuff X := fun h =>
  have ⟨b, _, hb⟩ := List.mem_flatMap.1 h
  flag_notMem_stuffUnit b hb

end Sys2Proof.Machine
end

section
/-! SUPPORT. The serial machines of 41_stuffing.md (R126 to R128): what they write is the function of the bytes they
are given, and what else they move. -/

namespace Sys2Proof.Machine

/-! ## What the scanning machine writes -/

/-- R126, R171: the buffer the machine appends to, PARSE's U or UNSTUFF's OUT. -/
def Codec.scanOutput (sync : Bool) (c : Codec) : Bytes := if sync then c.U else c.OUT

theorem Codec.emit_scanOutput (sync : Bool) (bytes : Bytes) (c : Codec) :
    (c.emit sync bytes).scanOutput sync = c.scanOutput sync ++ bytes := by
  cases sync <;> rfl

theorem Codec.syncByte_pending {c : Codec} (h : c.FS_STATE = FS_ESC) (sync : Bool) (b : Byte) :
    c.syncByte sync b = c.escUnit sync (unitBytes b) b := by
  rw [Codec.syncByte, if_pos h, Codec.partnerByte, unitBytes]
  split_ifs <;> rfl

theorem Codec.syncByte_notPending {c : Codec} (h : c.FS_STATE ≠ FS_ESC) (sync : Bool) (b : Byte) :
    c.syncByte sync b = c.plainByte sync b := if_neg h

/-- R126, R171: an unescaped escape is held back. -/
theorem Codec.syncByte_escape_pending {c : Codec} (h : c.FS_STATE ≠ FS_ESC) (sync : Bool) :
    (c.syncByte sync ESC).FS_STATE = FS_ESC := by
  rw [Codec.syncByte_FS_STATE]
  exact if_pos ⟨h, rfl⟩

/-- R126: an escape is held back, and its partner decides what the unit decodes to. -/
theorem Codec.syncByte_scanOutput (sync : Bool) (c : Codec) (b : Byte) :
    (c.syncByte sync b).scanOutput sync = c.scanOutput sync ++
      if c.FS_STATE = FS_ESC then unitBytes b else if b = ESC then [] else [b] := by
  by_cases hesc : c.FS_STATE = FS_ESC
  · rw [Codec.syncByte_pending hesc, if_pos hesc]
    exact Codec.emit_scanOutput ..
  · rw [Codec.syncByte_notPending hesc, if_neg hesc]
    unfold Codec.plainByte
    by_cases hb : b = ESC
    · simp only [if_pos hb]
      exact (List.append_nil _).symm
    · simp only [if_neg hb]
      exact Codec.emit_scanOutput ..

/-- R128: with no escape pending, the machine appends `unstuff` of the bytes it is given. -/
theorem Codec.finishSync_foldl_scanOutput (sync : Bool) (Y : Bytes) {c : Codec} (h : c.FS_STATE ≠ FS_ESC) :
    ((Y.foldl (Codec.syncByte sync) c).finishSync sync).scanOutput sync = c.scanOutput sync ++ unstuff Y := by
  induction Y using scan_induction generalizing c with
  | nil => rw [List.foldl_nil, Codec.finishSync_of_notPending h, unstuff_nil, List.append_nil]
  | trailing =>
    have pending := Codec.syncByte_escape_pending h sync
    calc ((c.syncByte sync ESC).finishSync sync).scanOutput sync
      _ = (c.syncByte sync ESC).scanOutput sync ++ [ESC] := by
        rw [Codec.finishSync, if_pos pending]
        exact Codec.emit_scanOutput ..
      _ = c.scanOutput sync ++ [ESC] := by rw [Codec.syncByte_scanOutput, if_neg h, if_pos rfl, List.append_nil]
  | plain b rest hb ih =>
    have ready : (c.syncByte sync b).FS_STATE ≠ FS_ESC := by
      rw [Codec.syncByte_FS_STATE, if_neg (fun ⟨_, e⟩ => hb e)]
      decide
    rw [List.foldl_cons, ih ready, Codec.syncByte_scanOutput, if_neg h, if_neg hb, unstuff_plain hb,
      List.append_assoc, List.singleton_append]
  | escape x rest ih =>
    have pending := Codec.syncByte_escape_pending h sync
    have ready : ((c.syncByte sync ESC).syncByte sync x).FS_STATE ≠ FS_ESC := by
      rw [Codec.syncByte_FS_STATE, if_neg (fun ⟨e, _⟩ => e pending)]
      decide
    rw [List.foldl_cons, List.foldl_cons, ih ready, Codec.syncByte_scanOutput, if_pos pending,
      Codec.syncByte_scanOutput, if_neg h, if_pos rfl, List.append_nil, unstuff_unit, List.append_assoc]

/-! ## What UNSTUFF's machine moves -/

/-- The three registers UNSTUFF's machine writes (R126, log 7). -/
def Codec.withScan (out : Bytes) (fs : BitVec 2) (pos : Nat) (c : Codec) : Codec :=
  { c with OUT := out, FS_STATE := fs, IN_POS := pos }

/-- `d` is `c` but for the three registers UNSTUFF's machine writes. -/
def Codec.ScanOf (c d : Codec) : Prop := d = c.withScan d.OUT d.FS_STATE d.IN_POS

theorem Codec.ScanOf.syncByte {c d : Codec} (h : c.ScanOf d) (b : Byte) : c.ScanOf (d.syncByte false b) := by
  by_cases hesc : d.FS_STATE = FS_ESC
  · rw [Codec.syncByte_pending hesc, h]
    rfl
  · rw [Codec.syncByte_notPending hesc, h]
    unfold Codec.plainByte
    by_cases hb : b = ESC
    · simp only [if_pos hb]
      rfl
    · simp only [if_neg hb]
      rfl

theorem Codec.ScanOf.finishSync {c d : Codec} (h : c.ScanOf d) : c.ScanOf (d.finishSync false) := by
  rw [h]
  unfold Codec.finishSync
  split <;> rfl

theorem Codec.syncAll_scanOf (c : Codec) : c.ScanOf (c.syncAll false) :=
  Codec.ScanOf.finishSync <|
    List.foldlRecOn c.IN (Codec.syncByte false) (motive := c.ScanOf) rfl fun _ h b _ => h.syncByte b

/-! ## The stuffing machine -/

/-- R127, R128: the machine appends `stuff` of the bytes it is given, and moves nothing else. -/
theorem Codec.foldl_stuffByte (Y : Bytes) (c : Codec) :
    Y.foldl Codec.stuffByte c = { c with OUT := c.OUT ++ stuff Y } := by
  induction Y generalizing c with
  | nil => rw [List.foldl_nil, stuff_nil, List.append_nil]
  | cons b rest ih => rw [List.foldl_cons, ih, stuff_cons, Codec.stuffByte, List.append_assoc]

end Sys2Proof.Machine
end

section
/-! PROOFS. The statements about the stuffing codec (41_stuffing.md). -/

namespace Sys2Proof.Machine

/-- Settles O9: what the scan of IN writes, and the registers it moves. -/
theorem unstuffResult : Obligations.UnstuffResult := by
  intro s
  have out : ((s.cur.begin .unstuff).syncAll false).OUT = unstuff s.cur.IN :=
    Codec.finishSync_foldl_scanOutput false s.cur.IN (s.cur.begin_settled .unstuff).notPending
  have frame := (s.cur.begin .unstuff).syncAll_scanOf
  exact ⟨_, rfl, out, congrArg List.length out, rfl, rfl,
    congrArg (fun c : Codec => { s with cur := c.complete .ok }) frame⟩

/-- Settles O10, by what the stuffing machine appends to the empty OUT. -/
theorem stuffResult : Obligations.StuffResult := by
  intro s
  rw [exec, execStuff, Codec.foldl_stuffByte]
  rfl

/-- Settles O31: the step is the machine's byte step. -/
theorem serialUnstuffTable : Obligations.SerialUnstuffTable := by
  intro s b hnil hbusy hph hb hlegal
  obtain ⟨hpos, hget⟩ := List.getElem?_eq_some_iff.1 hb
  have idle : s.cur.syncing = false := Codec.syncing_of_ne (by simp [hph])
  refine ⟨{ s with cur := s.cur.syncByte false b }, ?_, ?_, ?_, Codec.syncByte_scanOutput false s.cur b⟩
  · rw [step_nil hnil, State.runStep_unstuff hbusy hph, State.runSync_byte idle hlegal hpos, byteAt_of_lt hpos, hget]
    rfl
  · have frame : s.cur.ScanOf (s.cur.syncByte false b) := Codec.ScanOf.syncByte (d := s.cur) rfl b
    rw [Codec.ScanOf, Codec.syncByte_IN_POS] at frame
    exact congrArg (fun c : Codec => { s with cur := c }) frame
  · show (s.cur.syncByte false b).FS_STATE = FS_ESC ↔ s.cur.FS_STATE ≠ FS_ESC ∧ b = ESC
    rw [Codec.syncByte_FS_STATE]
    split
    · exact iff_of_true rfl ‹_›
    · exact iff_of_false (by decide) ‹_›

/-- Settles O33: byte by byte, and the two counterexamples evaluated. -/
theorem unstuffUndoesStuff : Obligations.UnstuffUndoesStuff := ⟨unstuff_stuff, by decide, by decide⟩

/-- Settles O34: unit by unit of the scan. -/
theorem unstuffLengthLaw : Obligations.UnstuffLengthLaw := unstuff_length

/-- Settles O35: byte by byte. -/
theorem stuffLengthLaw : Obligations.StuffLengthLaw := fun X =>
  have ⟨sum, double⟩ := stuff_length X
  ⟨sum, double, flag_notMem_stuff X⟩

/-- Settles O36: both machines from an empty OUT. -/
theorem serialMachinesComputeFunctions : Obligations.SerialMachinesComputeFunctions := by
  intro c Y hout hesc
  have scan : ((Y.foldl (Codec.syncByte false) c).finishSync false).OUT = c.OUT ++ unstuff Y :=
    Codec.finishSync_foldl_scanOutput false Y hesc
  rw [hout] at scan
  refine ⟨scan, ?_⟩
  rw [Codec.foldl_stuffByte, hout]
  rfl

end Sys2Proof.Machine
end

section
/-! SUPPORT. The XOR checksum (42_checksum.md R150, R152): what it makes of a concatenation, and what its serial form
moves. -/

namespace Sys2Proof.Machine

theorem checksum_append (A B : Bytes) : checksum (A ++ B) = checksum A ^^^ checksum B := by
  have fromZero : checksum A ^^^ (0x00 : Byte) = checksum A := BitVec.xor_zero
  calc checksum (A ++ B)
    _ = B.foldl (fun acc b => acc ^^^ b) (checksum A) := List.foldl_append
    _ = B.foldl (fun acc b => acc ^^^ b) (checksum A ^^^ 0x00) := by rw [fromZero]
    _ = checksum A ^^^ checksum B := List.foldl_assoc

theorem checksum_singleton (b : Byte) : checksum [b] = b := BitVec.zero_xor

/-- R152: the serial form moves the accumulator only. -/
theorem Codec.foldl_checksumByte (B : Bytes) (c : Codec) :
    B.foldl Codec.checksumByte c = { c with CS_ACC := B.foldl (fun acc b => acc ^^^ b) c.CS_ACC } := by
  induction B generalizing c with
  | nil => rfl
  | cons b rest ih => rw [List.foldl_cons, ih]; rfl

end Sys2Proof.Machine
end

section
/-! SUPPORT. What a dispatch action reads of U (43_parser.md R175 to R181): the CommandId and the body, so that a
message of the same length with both the same is answered the same. -/

namespace Sys2Proof.Machine

/-! ## Byte sequences that agree on a range -/

/-- `U` and `V` hold the same bytes at the indexes `a..b`, half-open. -/
def SameOn (U V : Bytes) (a b : Nat) : Prop := ∀ j, a ≤ j → j < b → V[j]? = U[j]?

section
variable {U V : Bytes} {a b : Nat}

theorem SameOn.mono (h : SameOn U V a b) {a' b' : Nat} (ha : a ≤ a') (hb : b' ≤ b) : SameOn U V a' b' :=
  fun j hj hj' => h j (ha.trans hj) (hj'.trans_le hb)

theorem SameOn.byteAt_eq (h : SameOn U V a b) {i : Nat} (ha : a ≤ i) (hb : i < b) : byteAt V i = byteAt U i := by
  simp only [byteAt, List.getD_eq_getElem?_getD, h i ha hb]

theorem SameOn.be16_eq (h : SameOn U V a b) {i : Nat} (ha : a ≤ i) (hb : i + 2 ≤ b) : be16 V i = be16 U i := by
  rw [be16, be16, h.byteAt_eq ha (by omega), h.byteAt_eq (i := i + 1) (by omega) (by omega)]

theorem SameOn.be32_eq (h : SameOn U V a b) {i : Nat} (ha : a ≤ i) (hb : i + 4 ≤ b) : be32 V i = be32 U i := by
  rw [be32, be32, h.be16_eq ha (by omega), h.be16_eq (i := i + 2) (by omega) (by omega)]

theorem SameOn.be48_eq (h : SameOn U V a b) {i : Nat} (ha : a ≤ i) (hb : i + 6 ≤ b) : be48 V i = be48 U i := by
  rw [be48, be48, h.be16_eq ha (by omega), h.be32_eq (i := i + 2) (by omega) (by omega)]

theorem SameOn.slice_eq (h : SameOn U V a b) : slice V a b = slice U a b := by
  refine List.ext_getElem? fun i => ?_
  simp only [slice, List.getElem?_take, List.getElem?_drop]
  split
  · exact h _ (by omega) (by omega)
  · rfl

/-- R210 to R214: a record is read from the bytes 8 to 27 of its body. -/
theorem SameOn.reportAt_eq {base : Nat} (h : SameOn U V (base + 8) (base + 28)) (dev : BitVec 48) :
    reportAt V dev base = reportAt U dev base := by
  have word := fun k (lo : 8 ≤ k) (hi : k + 2 ≤ 28) => h.be16_eq (i := base + k) (by omega) (by omega)
  have long := fun k (lo : 8 ≤ k) (hi : k + 4 ≤ 28) => h.be32_eq (i := base + k) (by omega) (by omega)
  have byte := fun k (lo : 8 ≤ k) (hi : k < 28) => h.byteAt_eq (i := base + k) (by omega) (by omega)
  rw [reportAt, reportAt, long 8 (by decide) (by decide), long 12 (by decide) (by decide),
    word 16 (by decide) (by decide), word 18 (by decide) (by decide), word 20 (by decide) (by decide),
    h.be48_eq (i := base + 22) (by omega) (by omega),
    byte 22 (by decide) (by decide), byte 23 (by decide) (by decide), byte 24 (by decide) (by decide),
    byte 25 (by decide) (by decide), byte 26 (by decide) (by decide), byte 27 (by decide) (by decide)]

end

/-! ## Another message in U -/

/-- The codec with another unstuffed message. -/
def Codec.withU (V : Bytes) (c : Codec) : Codec := { c with U := V }

section
variable {c : Codec} {V : Bytes}

theorem Codec.withU_BLEN (len : V.length = c.NU) : (c.withU V).BLEN = c.BLEN := congrArg (· - NU_MIN) len

/-- R174: the length check passes the same messages. -/
theorem Codec.checked_withU {e e' : Codec} (len : V.length = c.NU) (h : 15 ≤ c.NU → e' = e.withU V) :
    (c.withU V).checked e' = (c.checked e).withU V := by
  have len' : (c.withU V).NU = c.NU := len
  by_cases short : c.NU < 15
  · rw [Codec.checked_of_short (len'.trans_lt short), Codec.checked_of_short short]
    rfl
  · have long := not_lt.1 short
    rw [Codec.checked_of_long (len'.ge.trans' long), Codec.checked_of_long long, h long]

theorem Codec.singleReport_withU {base lim : Nat} (h : base + 28 ≤ lim → SameOn c.U V (base + 8) (base + 28)) :
    (c.withU V).singleReport base lim = c.singleReport base lim := by
  unfold Codec.singleReport SR_MIN
  split
  · rfl
  · exact congrArg some ((h (by omega)).reportAt_eq c.H_DEV)

theorem Codec.ack8001_withU (h : SameOn c.U V 1 3) : (c.withU V).ack8001 = c.ack8001 :=
  congrArg (build8001 (bytes48 c.H_DEV) (bytes16 c.H_SEQ)) h.slice_eq

/-- R220, R221: an iteration of the walker reads the body from its cursor on. -/
theorem Codec.walkItem_withU (len : V.length = c.NU) (h : SameOn c.U V (13 + c.B_POS) (13 + c.BLEN)) :
    (c.withU V).walkItem = c.walkItem.map (Codec.withU V) := by
  have blen := Codec.withU_BLEN len
  have pos : (c.withU V).B_POS = c.B_POS := rfl
  unfold Codec.walkItem HDR_END
  rw [blen, pos]
  split
  · rfl
  · have itemLen : be16 (c.withU V).U (13 + c.B_POS) = be16 c.U (13 + c.B_POS) := h.be16_eq le_rfl (by omega)
    rw [itemLen]
    dsimp only
    split
    · rfl
    · rw [Codec.singleReport_withU fun _ => h.mono (by omega) (by omega)]
      cases c.singleReport _ _ <;> rfl

/-- R220: so do all of them, and the cursor only rises. -/
theorem Codec.walk_withU (n : Nat) (len : V.length = c.NU) (h : SameOn c.U V (13 + c.B_POS) (13 + c.BLEN)) :
    (c.withU V).walk n = (c.walk n).map (Codec.withU V) id := by
  induction n generalizing c with
  | zero => rfl
  | succ n ih =>
    have item := Codec.walkItem_withU len h
    cases hi : c.walkItem with
    | none => rw [Codec.walk_of_raise hi, Codec.walk_of_raise (by rw [item, hi]; rfl)]; rfl
    | some d =>
      rw [Codec.walk_of_item hi, Codec.walk_of_item (d := d.withU V) (by rw [item, hi]; rfl)]
      obtain ⟨-, -, rfl⟩ := Codec.walkItem_eq_some hi
      exact ih len (h.mono (by dsimp only; omega) le_rfl)

end

/-! ## The actions -/

/-- `V` has the length, the CommandId and the body of the message in U: all that an action reads of it (R176). -/
structure Codec.SameRead (c : Codec) (V : Bytes) : Prop where
  length : V.length = c.NU
  command : 15 ≤ c.NU → SameOn c.U V 1 3
  body : SameOn c.U V 13 (13 + c.BLEN)

section
variable {c : Codec} {V : Bytes}

theorem Codec.SameRead.locReport (h : c.SameRead V) : (c.withU V).locReport = c.locReport.withU V := by
  refine Codec.checked_withU h.length fun long => ?_
  have lim : (c.withU V).NU - 2 = c.NU - 2 := congrArg (· - 2) h.length
  have report : (c.withU V).singleReport 13 (c.NU - 2) = c.singleReport 13 (c.NU - 2) :=
    Codec.singleReport_withU fun fits => h.body.mono (by omega) (by unfold Codec.BLEN NU_MIN; omega)
  have ack := Codec.ack8001_withU (h.command long)
  rw [lim, HDR_END, report, ack]
  cases c.singleReport 13 (c.NU - 2) <;> rfl

theorem Codec.SameRead.batchLoc (h : c.SameRead V) : (c.withU V).batchLoc = c.batchLoc.withU V := by
  refine Codec.checked_withU h.length fun long => ?_
  have blen := Codec.withU_BLEN h.length
  rw [blen]
  split
  · rfl
  · have count : be16 V 13 = be16 c.U 13 := h.body.be16_eq le_rfl (by omega)
    have start : (c.withU V).walkStart = c.walkStart.withU V := by
      unfold Codec.walkStart HDR_END
      exact congrArg (fun n => ({ c with U := V, B_COUNT := n, B_POS := 3, B_ITER := 0, RQ := [] } : Codec)) count
    have walk : (c.walkStart.withU V).walk ((c.walkStart.withU V).B_COUNT.toNat - 1) = _ :=
      Codec.walk_withU (c := c.walkStart) (c.walkStart.B_COUNT.toNat - 1) h.length (h.body.mono (by omega) le_rfl)
    have frame := congrArg Codec.U (c.walkStart_walk_frame (c.walkStart.B_COUNT.toNat - 1))
    dsimp only
    rw [start, walk]
    rcases hw : c.walkStart.walk (c.walkStart.B_COUNT.toNat - 1) with ⟨d, _ | _⟩
    · rfl
    · rw [hw] at frame
      have command : SameOn d.U V 1 3 := frame ▸ h.command long
      exact congrArg (d.withU V).answer (Codec.ack8001_withU command)

theorem Codec.SameRead.registerAck (h : c.SameRead V) : (c.withU V).registerAck = c.registerAck.withU V :=
  Codec.checked_withU h.length fun _ => rfl

theorem Codec.SameRead.generalAck (h : c.SameRead V) : (c.withU V).generalAck = c.generalAck.withU V :=
  Codec.checked_withU h.length fun long => by rw [Codec.ack8001_withU (h.command long)]; rfl

theorem Codec.SameRead.ignore (h : c.SameRead V) : (c.withU V).ignore = c.ignore.withU V :=
  Codec.checked_withU h.length fun _ => rfl

end

/-- The end of a PARSE reads RQ and the result, not U. -/
theorem State.putParse_withU {s t : State} {c d : Codec} {V : Bytes} (hd : d = c.withU V) (h : s.putParse c = .next t) :
    ({ s with cur := s.cur.withU V } : State).putParse d = .next { t with cur := t.cur.withU V } := by
  subst hd
  rcases s.putParse_cases c with ⟨fits, hc⟩ | ⟨-, hc⟩ <;> rw [hc] at h
  · obtain rfl := Host.Outcome.next.inj h
    exact State.putParse_of_admits (c := c.withU V) fits
  · cases h

end Sys2Proof.Machine
end

section
/-! PROOFS. The statements about the checksum (42_checksum.md) and about the bytes of a message no action reads. -/

namespace Sys2Proof.Machine

/-- Settles O11: the accumulator the serial form leaves, zero-extended. -/
theorem checksumResult : Obligations.ChecksumResult := by
  refine ⟨by decide, fun s => ?_⟩
  rw [exec, execChecksum, Codec.foldl_checksumByte]
  rfl

/-- Settles O38: the self-inverse law is the distribution law for one byte more. -/
theorem checksumLaws : Obligations.ChecksumLaws := by
  refine ⟨fun A => ?_, checksum_append⟩
  rw [checksum_append, checksum_singleton]
  exact BitVec.xor_self

/-- Settles O47: the bytes that may differ are neither of the CommandId nor of the body. -/
theorem ignoredHeaderBytesChangeNothing : Obligations.IgnoredHeaderBytesChangeNothing := by
  intro i s V hi len same t ht
  have read : s.cur.SameRead V := {
    length := len
    command := fun long j lo hi => same j (by omega) (by omega) (by omega) (by omega) (by omega)
    body := fun j lo hi => by
      unfold Codec.BLEN NU_MIN at hi
      exact same j (by omega) (by omega) (by omega) (by omega) (by omega) }
  cases i with
  | locReport => exact State.putParse_withU read.locReport ht
  | batchLoc => exact State.putParse_withU read.batchLoc ht
  | register => exact State.putParse_withU read.registerAck ht
  | heartbeat => exact State.putParse_withU read.generalAck ht
  | auth2 => exact State.putParse_withU read.generalAck ht
  | unrecognized cmd => exact State.putParse_withU read.ignore ht
  | _ => cases hi

end Sys2Proof.Machine
end

section
/-! SUPPORT. Slices of a message (00_scope.md R11), and the numbers and records read from them: what the registers hold
(20_memory.md R53, R54) is what the reference functions read from whole byte sequences. -/

namespace Sys2Proof.Machine

open Reference (bigEndian)

/-! ## Slices -/

theorem slice_cons {B : Bytes} {a b : Nat} (hab : a < b) (hb : b ≤ B.length) :
    slice B a b = byteAt B a :: slice B (a + 1) b := by
  have ha : a < B.length := hab.trans_le hb
  rw [slice, slice, List.drop_eq_getElem_cons ha, byteAt_of_lt ha, show b - a = b - (a + 1) + 1 by omega,
    List.take_succ_cons]

theorem slice_nil {B : Bytes} {a b : Nat} (h : b ≤ a) : slice B a b = [] := by
  rw [slice, Nat.sub_eq_zero_of_le h, List.take_zero]

theorem slice_add (B : Bytes) (a m n : Nat) :
    slice B a (a + (m + n)) = slice B a (a + m) ++ slice B (a + m) (a + (m + n)) := by
  rw [slice, slice, slice, Nat.add_sub_cancel_left, Nat.add_sub_cancel_left, Nat.add_sub_add_left,
    Nat.add_sub_cancel_left, List.take_add, List.drop_drop]

theorem slice_one {B : Bytes} {a : Nat} (h : a + 1 ≤ B.length) : slice B a (a + 1) = [byteAt B a] := by
  rw [slice_cons (by omega) h, slice_nil le_rfl]

theorem slice_drop (B : Bytes) (a b n : Nat) : (slice B a b).drop n = slice B (a + n) b := by
  rw [slice, slice, List.drop_take, List.drop_drop, Nat.sub_sub]

theorem slice_take {B : Bytes} {a b n : Nat} (h : a + n ≤ b) : (slice B a b).take n = slice B a (a + n) := by
  rw [slice, slice, List.take_take, Nat.min_eq_left (by omega), Nat.add_sub_cancel_left]

/-- A slice of a slice, inside it. -/
theorem slice_slice {B : Bytes} {a b i j : Nat} (hij : i ≤ j) (h : a + j ≤ b) :
    slice (slice B a b) i j = slice B (a + i) (a + j) := by
  rw [slice, slice_drop, slice_take (by omega), show a + i + (j - i) = a + j by omega]

/-! ## The fields -/

/-- R53: a 16-bit field is the two bytes it is read from. -/
theorem bytes16_be16 {B : Bytes} {a : Nat} (h : a + 2 ≤ B.length) : bytes16 (be16 B a) = slice B a (a + 2) := by
  rw [be16, bytes16_of_append, slice_cons (by omega) h, slice_one (by omega)]

/-- R54: and a 48-bit one its six. -/
theorem bytes48_be48_slice {B : Bytes} {a : Nat} (h : a + 6 ≤ B.length) : bytes48 (be48 B a) = slice B a (a + 6) := by
  rw [bytes48_be48]
  iterate 5 rw [slice_cons (by omega) h]
  rw [slice_one (by omega)]

theorem bigEndian_concat (B : Bytes) (b : Byte) : bigEndian (B ++ [b]) = bigEndian B * 256 + b.toNat :=
  List.foldl_concat ..

theorem bigEndian_append (A B : Bytes) : bigEndian (A ++ B) = bigEndian A * 2 ^ (8 * B.length) + bigEndian B := by
  induction B using List.reverseRecOn with
  | nil => simp [bigEndian]
  | append_singleton B b ih =>
    rw [← List.append_assoc, bigEndian_concat, ih, bigEndian_concat, List.length_append, List.length_singleton,
      Nat.mul_add, pow_add]
    ring

theorem toNat_append {m n : Nat} (x : BitVec m) (y : BitVec n) : (x ++ y).toNat = x.toNat * 2 ^ n + y.toNat := by
  rw [BitVec.toNat_append, ← Nat.shiftLeft_add_eq_or_of_lt y.isLt, Nat.shiftLeft_eq]

theorem bigEndian_bytes16 (w : BitVec 16) : bigEndian (bytes16 w) = w.toNat := by
  conv_rhs => rw [← bytes16_append w, toNat_append]
  simp [bigEndian, bytes16]

theorem bigEndian_slice_two {B : Bytes} {a : Nat} (h : a + 2 ≤ B.length) :
    bigEndian (slice B a (a + 2)) = (be16 B a).toNat := by
  rw [← bytes16_be16 h, bigEndian_bytes16]

theorem bigEndian_slice_four {B : Bytes} {a : Nat} (h : a + 4 ≤ B.length) :
    bigEndian (slice B a (a + 4)) = (be32 B a).toNat := by
  rw [slice_add B a 2 2, bigEndian_append, bigEndian_slice_two (by omega), bigEndian_slice_two (a := a + 2) h,
    slice_length, be32, toNat_append, show min (a + (2 + 2) - (a + 2)) (B.length - (a + 2)) = 2 by omega]

theorem bigEndian_slice_six {B : Bytes} {a : Nat} (h : a + 6 ≤ B.length) :
    bigEndian (slice B a (a + 6)) = (be48 B a).toNat := by
  rw [slice_add B a 2 4, bigEndian_append, bigEndian_slice_two (by omega), bigEndian_slice_four (a := a + 2) h,
    slice_length, be48, toNat_append, show min (a + (2 + 4) - (a + 2)) (B.length - (a + 2)) = 4 by omega]

/-- R54: no bit of a 48-bit register is lost in its six bytes. -/
theorem bigEndian_bytes48 (w : BitVec 48) : bigEndian (bytes48 w) = w.toNat := by
  simp only [bigEndian, bytes48, List.foldl_cons, List.foldl_nil, BitVec.extractLsb'_toNat,
    Nat.shiftRight_eq_div_pow]
  omega

/-! ## The record -/

section
variable {U : Bytes} {base lim i : Nat}

/-- R212: a number of the body of a record is the one at its index in U. -/
theorem be16_of_body (hi : base + i + 2 ≤ lim) (inside : lim ≤ U.length) :
    BitVec.ofNat 16 (bigEndian (slice (slice U base lim) i (i + 2))) = be16 U (base + i) := by
  rw [slice_slice (Nat.le_add_right ..) (by omega), ← Nat.add_assoc, bigEndian_slice_two (by omega),
    BitVec.ofNat_toNat, BitVec.setWidth_eq]

theorem be32_of_body (hi : base + i + 4 ≤ lim) (inside : lim ≤ U.length) :
    BitVec.ofNat 32 (bigEndian (slice (slice U base lim) i (i + 4))) = be32 U (base + i) := by
  rw [slice_slice (Nat.le_add_right ..) (by omega), ← Nat.add_assoc, bigEndian_slice_four (by omega),
    BitVec.ofNat_toNat, BitVec.setWidth_eq]

theorem be48_of_body (hi : base + i + 6 ≤ lim) (inside : lim ≤ U.length) :
    BitVec.ofNat 48 (bigEndian (slice (slice U base lim) i (i + 6))) = be48 U (base + i) := by
  rw [slice_slice (Nat.le_add_right ..) (by omega), ← Nat.add_assoc, bigEndian_slice_six (by omega),
    BitVec.ofNat_toNat, BitVec.setWidth_eq]

theorem byteAt_of_body (hi : base + i + 1 ≤ lim) (inside : lim ≤ U.length) :
    slice (slice U base lim) i (i + 1) = [byteAt U (base + i)] := by
  rw [slice_slice (Nat.le_add_right ..) (by omega), ← Nat.add_assoc, slice_one (by omega)]

/-- R74, R210 to R214: the record at U index `base` is that of the body that begins there. -/
theorem report_slice (fits : base + 28 ≤ lim) (inside : lim ≤ U.length) (dev : BitVec 48) :
    Reference.report (bytes48 dev) (slice U base lim) = reportAt U dev base := by
  have word (i : Nat) (hi : i + 2 ≤ 28) := be16_of_body (U := U) (base := base) (i := i) (by omega) inside
  have long (i : Nat) (hi : i + 4 ≤ 28) := be32_of_body (U := U) (base := base) (i := i) (by omega) inside
  have byte (i : Nat) (hi : i + 1 ≤ 28) := byteAt_of_body (U := U) (base := base) (i := i) (by omega) inside
  rw [Reference.report, reportAt, bigEndian_bytes48, BitVec.ofNat_toNat, BitVec.setWidth_eq,
    long 8 (by decide), long 12 (by decide), word 16 (by decide), word 18 (by decide), word 20 (by decide),
    be48_of_body (i := 22) fits inside, byte 22 (by decide), byte 23 (by decide), byte 24 (by decide),
    byte 25 (by decide), byte 26 (by decide), byte 27 (by decide)]
  rfl

end

end Sys2Proof.Machine
end

section
/-! SUPPORT. The batch walker (44_report_parser.md R220, R221) against the items of a batch body. -/

namespace Sys2Proof.Machine

/-- R220: the length bytes in front of an item, and what follows them. -/
theorem be16_eq_of_slice {B : Bytes} {a b : Nat} {hi lo : Byte} {rest : Bytes}
    (h : slice B a b = hi :: lo :: rest) (hb : b ≤ B.length) :
    (be16 B a).toNat = hi.toNat * 256 + lo.toNat ∧ rest = slice B (a + 2) b := by
  have len := congrArg List.length h
  rw [slice_length, List.length_cons, List.length_cons] at len
  rw [slice_cons (by omega) hb, slice_cons (by omega) hb] at h
  obtain ⟨first, tail⟩ := List.cons.inj h
  obtain ⟨second, others⟩ := List.cons.inj tail
  rw [be16, toNat_append, first, second]
  exact ⟨rfl, others.symm⟩

/-- R220: an item behind its length bytes, if the rest of the body has it and it is long enough for a report. -/
theorem items_succ_cons (n : Nat) (hi lo : Byte) (rest : Bytes) :
    Reference.items (n + 1) (hi :: lo :: rest) =
      if rest.length < hi.toNat * 256 + lo.toNat ∨ hi.toNat * 256 + lo.toNat < 28 then none
      else (Reference.items n (rest.drop (hi.toNat * 256 + lo.toNat))).map
        (rest.take (hi.toNat * 256 + lo.toNat) :: ·) := rfl

theorem items_length {n : Nat} {B : Bytes} {bodies : List Bytes} (h : Reference.items n B = some bodies) :
    bodies.length = n := by
  induction n generalizing B bodies with
  | zero =>
    cases h
    rfl
  | succ n ih =>
    match B with
    | [] | [_] => cases h
    | hi :: lo :: rest =>
      rw [items_succ_cons] at h
      split at h
      · cases h
      · obtain ⟨later, hl, rfl⟩ := Option.map_eq_some_iff.1 h
        rw [List.length_cons, ih hl]

/-- R176: the body in U, with the checksum and the closing flag left out. -/
def Codec.bodyFrom (pos : Nat) (c : Codec) : Bytes := slice c.U (13 + pos) (13 + c.BLEN)

theorem Codec.bodyFrom_length (pos : Nat) (c : Codec) : (c.bodyFrom pos).length = c.BLEN - pos := by
  rw [Codec.bodyFrom, slice_length]
  unfold Codec.BLEN Codec.NU NU_MIN
  omega

/-- R176: a body lies inside the message. -/
theorem Codec.body_inside {c : Codec} (h : 0 < c.BLEN) : 13 + c.BLEN ≤ c.U.length := by
  unfold Codec.BLEN Codec.NU NU_MIN at *
  omega

/-- R220: no length bytes fit in what is left of the body. -/
theorem Codec.walkItem_of_short {c : Codec} (h : (c.bodyFrom c.B_POS).length < 2) : c.walkItem = none := by
  rw [Codec.bodyFrom_length] at h
  exact if_pos (by omega)

/-- R220: or they ask for more than is left of the body, or for less than a report. -/
theorem Codec.walkItem_of_broken {c : Codec} {n : Nat} (h : (be16 c.U (13 + c.B_POS)).toNat = n)
    (broken : c.BLEN < c.B_POS + 2 + n ∨ n < 28) : c.walkItem = none := by
  refine Option.eq_none_iff_forall_ne_some.2 fun d hd => ?_
  obtain ⟨fits, long, -⟩ := Codec.walkItem_eq_some hd
  omega

/-- The walker past one item whose bytes are `body` (R220, R221). -/
def Codec.passItem (body : Bytes) (c : Codec) : Codec :=
  { c with
    RQ := c.RQ ++ [Reference.report (bytes48 c.H_DEV) body]
    B_POS := c.B_POS + (2 + body.length)
    B_ITER := c.B_ITER + 1 }

/-- R220, R221: an item that fits. -/
theorem Codec.walkItem_of_fits {c : Codec} {n : Nat} (hn : (be16 c.U (13 + c.B_POS)).toNat = n)
    (fits : c.B_POS + 2 + n ≤ c.BLEN) (long : 28 ≤ n) :
    c.walkItem = some (c.passItem (slice c.U (13 + c.B_POS + 2) (13 + c.B_POS + 2 + n))) := by
  have body := c.body_inside (by omega)
  have inside : 13 + c.B_POS + 2 + n ≤ c.U.length := by omega
  have len : (slice c.U (13 + c.B_POS + 2) (13 + c.B_POS + 2 + n)).length = n := by
    rw [slice_length]
    omega
  have report : c.singleReport (13 + (c.B_POS + 2)) (13 + (c.B_POS + 2) + n) = some _ :=
    Codec.singleReport_eq_some.2 ⟨by omega, report_slice (by omega) inside c.H_DEV⟩
  unfold Codec.walkItem HDR_END
  dsimp only
  rw [hn, if_neg (by omega), if_neg (by omega), report, Codec.passItem, len, Nat.add_assoc c.B_POS]
  rfl

/-- R220: the walker goes on behind the item it passed. -/
theorem Codec.bodyFrom_passItem (body : Bytes) (c : Codec) :
    (c.passItem body).bodyFrom (c.passItem body).B_POS =
      ((c.bodyFrom c.B_POS).drop 2).drop body.length := by
  rw [Codec.bodyFrom, Codec.bodyFrom, slice_drop, slice_drop, Nat.add_assoc, Nat.add_assoc]
  rfl

/-- The walker past all the items whose bytes are `bodies`. -/
def Codec.passItems (bodies : List Bytes) (c : Codec) : Codec :=
  { c with
    RQ := c.RQ ++ bodies.map (Reference.report (bytes48 c.H_DEV))
    B_POS := c.B_POS + (bodies.map fun body => 2 + body.length).sum
    B_ITER := c.B_ITER + BitVec.ofNat 16 bodies.length }

theorem Codec.passItems_passItem (body : Bytes) (bodies : List Bytes) (c : Codec) :
    (c.passItem body).passItems bodies = c.passItems (body :: bodies) := by
  simp [Codec.passItem, Codec.passItems, Nat.add_assoc, BitVec.add_assoc, Nat.add_comm, BitVec.ofNat_add]

/-- `n` iterations of the walker agree with what the items of the body are: it raises where there are none, and
passes them all where there are. -/
def Codec.WalkMeets (n : Nat) (c : Codec) : Option (List Bytes) → Prop
  | none => (c.walk n).2 = false
  | some bodies => c.walk n = (c.passItems bodies, true)

theorem Codec.walkMeets_of_raise {c : Codec} (h : c.walkItem = none) (n : Nat) : c.WalkMeets (n + 1) none :=
  congrArg Prod.snd (Codec.walk_of_raise h n)

theorem Codec.walkMeets_of_item {c : Codec} {n : Nat} {body : Bytes} {later : Option (List Bytes)}
    (h : c.walkItem = some (c.passItem body)) (ih : (c.passItem body).WalkMeets n later) :
    c.WalkMeets (n + 1) (later.map (body :: ·)) := by
  cases later with
  | none => exact (congrArg Prod.snd (Codec.walk_of_item h n)).trans ih
  | some bodies => exact (Codec.walk_of_item h n).trans (ih.trans (by rw [Codec.passItems_passItem]))

/-- R220: the walker passes exactly the items of what is left of the body. -/
theorem Codec.walkMeets_items (n : Nat) (c : Codec) : c.WalkMeets n (Reference.items n (c.bodyFrom c.B_POS)) := by
  induction n generalizing c with
  | zero => simp [Codec.WalkMeets, Reference.items, Codec.walk, Codec.passItems]
  | succ n ih =>
    have blen := c.bodyFrom_length c.B_POS
    match hB : c.bodyFrom c.B_POS with
    | [] => exact Codec.walkMeets_of_raise (Codec.walkItem_of_short (by simp [hB])) n
    | [_] => exact Codec.walkMeets_of_raise (Codec.walkItem_of_short (by simp [hB])) n
    | hi :: lo :: rest =>
      rw [hB, List.length_cons, List.length_cons] at blen
      obtain ⟨itemLen, hrest⟩ := be16_eq_of_slice hB (c.body_inside (by omega))
      rw [items_succ_cons]
      split
      · exact Codec.walkMeets_of_raise (Codec.walkItem_of_broken itemLen (by omega)) n
      · have item := Codec.walkItem_of_fits itemLen (by omega) (by omega)
        rw [← slice_take (b := 13 + c.BLEN) (by omega), ← hrest] at item
        refine Codec.walkMeets_of_item item ?_
        have behind := ih (c.passItem (rest.take (hi.toNat * 256 + lo.toNat)))
        rw [Codec.bodyFrom_passItem, hB, List.length_take_of_le (by omega)] at behind
        exact behind

end Sys2Proof.Machine
end

section
/-! SUPPORT. The dispatch actions (43_parser.md R178 to R182): what each makes of the codec, and what the end
of a PARSE writes back for it. -/

namespace Sys2Proof.Machine

/-! ## The ends of a PARSE -/

/-- R271, R279: MALFORMED leaves the message to be dropped. -/
theorem State.putParse_malformed (s : State) (c : Codec) :
    s.putParse (c.raise .malformed) = s.putComposite (Reference.raised c 3 [.drop]) := s.putParse_raise c .malformed

/-- R182: UNRECOGNIZED_COMMAND leaves the host nothing to do. -/
theorem State.putParse_unrecognized (s : State) (c : Codec) :
    s.putParse (c.raise .unrecognizedCommand) = s.putComposite (Reference.raised c 2 []) :=
  s.putParse_raise c .unrecognizedCommand

/-- R184, R279: OK leaves the reports to be published and then the reply to be written. -/
theorem State.putParse_answer {s : State} {c : Codec} (fits : admits s.cfg.RQ_DEPTH c.RQ.length = true)
    (frame : Bytes) : s.putParse (c.answer frame) = s.putComposite (Reference.answered c c.RQ frame) := by
  have owed : c.session.owe (c.answer frame).duties =
      { c.session with owed := c.session.owed ++ c.RQ.map Duty.publish ++ [.writeReply frame] } := by
    rw [Codec.duties_ok (Codec.answer_STATUS ..), List.append_assoc]
    rfl
  rw [State.putParse_of_admits (c := c.answer frame) fits, Codec.answer_session, owed]
  rfl

/-- D32: or the build is too small for the reports. -/
theorem State.putParse_of_not_admits {s : State} {c : Codec} (h : admits s.cfg.RQ_DEPTH c.RQ.length = false) :
    s.putParse c = .refused .reportQueueTooSmall := if_neg (Bool.eq_false_iff.1 h)

/-! ## The actions -/

section
variable {c : Codec}

theorem Codec.bodyFrom_zero (long : 15 ≤ c.NU) : c.bodyFrom 0 = slice c.U 13 (c.NU - 2) := by
  rw [Codec.bodyFrom, Codec.BLEN, NU_MIN, show 13 + (c.NU - 15) = c.NU - 2 by omega]

/-- R178: the body has room for a report. -/
theorem Codec.locReport_of_long (long : 15 + 28 ≤ c.NU) :
    c.locReport = ({ c with RQ := [Reference.report (bytes48 c.H_DEV) (slice c.U 13 (c.NU - 2))] } : Codec).answer
      c.ack8001 := by
  have report : c.singleReport 13 (c.NU - 2) = some _ :=
    Codec.singleReport_eq_some.2 ⟨by omega, report_slice (lim := c.NU - 2) (by omega) (Nat.sub_le ..) c.H_DEV⟩
  rw [Codec.locReport, Codec.checked_of_long (by omega), HDR_END, report]

/-- R216: or it has not. -/
theorem Codec.locReport_of_short (long : 15 ≤ c.NU) (short : c.NU < 15 + 28) : c.locReport = c.raise .malformed := by
  have report : c.singleReport 13 (c.NU - 2) = none := if_pos (by unfold SR_MIN; omega)
  rw [Codec.locReport, Codec.checked_of_long long, HDR_END, report]

/-- R220, R222: the items of the batch in U. -/
theorem Codec.batchItems_eq (c : Codec) : Reference.batchItems (c.bodyFrom 0) =
    if c.BLEN < 2 then none else Reference.items ((be16 c.U 13).toNat - 1) (c.bodyFrom 3) := by
  rw [Reference.batchItems, Codec.bodyFrom_length, Nat.sub_zero]
  split
  · rfl
  · have count : slice (c.bodyFrom 0) 0 2 = slice c.U 13 15 := slice_slice (by omega) (by omega)
    have inside := c.body_inside (by omega)
    rw [count, bigEndian_slice_two (a := 13) (by omega), Codec.bodyFrom, slice_drop]
    rfl

/-- R179, R220, R224: the walker passes the items of a well-formed batch. -/
theorem Codec.batchLoc_of_items {bodies : List Bytes} (long : 15 ≤ c.NU)
    (h : Reference.batchItems (slice c.U 13 (c.NU - 2)) = some bodies) :
    c.batchLoc = (c.walkStart.passItems bodies).answer c.ack8001 := by
  rw [← Codec.bodyFrom_zero long, Codec.batchItems_eq] at h
  split at h
  · cases h
  · rename_i room
    have walk : c.walkStart.WalkMeets _ (some bodies) := h ▸ c.walkStart.walkMeets_items ((be16 c.U 13).toNat - 1)
    rw [Codec.batchLoc, Codec.checked_of_long long, if_neg room]
    dsimp only
    rw [Codec.walkStart_B_COUNT, HDR_END, show c.walkStart.walk _ = _ from walk]
    rfl

/-- R183, R220: and raises on any other. -/
theorem Codec.batchLoc_of_none (long : 15 ≤ c.NU)
    (h : Reference.batchItems (slice c.U 13 (c.NU - 2)) = none) :
    ∃ count iter pos, c.batchLoc = (c.withBatch c.RQ count iter pos).raise .malformed := by
  rw [← Codec.bodyFrom_zero long, Codec.batchItems_eq] at h
  rw [Codec.batchLoc, Codec.checked_of_long long]
  split at h
  · rename_i short
    exact ⟨c.B_COUNT, c.B_ITER, c.B_POS, if_pos short⟩
  · rename_i room
    have walk : c.walkStart.WalkMeets _ none := h ▸ c.walkStart.walkMeets_items ((be16 c.U 13).toNat - 1)
    have frame := c.walkStart_walk_frame ((be16 c.U 13).toNat - 1)
    rw [if_neg room]
    dsimp only
    rw [Codec.walkStart_B_COUNT, HDR_END]
    rcases hw : c.walkStart.walk ((be16 c.U 13).toNat - 1) with ⟨d, done⟩
    simp only [Codec.WalkMeets, hw] at walk frame
    subst walk
    rw [frame]
    exact ⟨_, _, _, rfl⟩

end

/-- R222: from the walker's start the counters stand for the items passed. -/
theorem Codec.walkStart_passItems (bodies : List Bytes) (c : Codec) :
    c.walkStart.passItems bodies =
      c.withBatch (bodies.map (Reference.report (bytes48 c.H_DEV))) (be16 c.U 13) (BitVec.ofNat 16 bodies.length)
        (3 + (bodies.map fun body => 2 + body.length).sum) := by
  simp [Codec.passItems, Codec.withBatch, Codec.walkStart, HDR_END]

/-- R222: one item fewer than the count, with a floor of 0. -/
theorem Codec.batchItems_length {c : Codec} {bodies : List Bytes} (long : 15 ≤ c.NU)
    (h : Reference.batchItems (slice c.U 13 (c.NU - 2)) = some bodies) :
    bodies.length = (be16 c.U 13).toNat - 1 := by
  rw [← Codec.bodyFrom_zero long, Codec.batchItems_eq] at h
  split at h
  · cases h
  · exact items_length h

/-- R174: a message below 15 bytes is MALFORMED before any action looks at it. -/
theorem exec_action_of_short {i : Instr} (hi : i.format = .cmdid16) {s : State} (h : s.cur.NU < 15) :
    exec i s = s.putComposite (Reference.raised s.cur 3 [.drop]) := by
  have short (action : Codec) :
      s.putParse (s.cur.checked action) = s.putComposite (Reference.raised s.cur 3 [.drop]) := by
    rw [Codec.checked_of_short h, State.putParse_malformed]
  cases i with
  | locReport => exact short _
  | batchLoc => exact short _
  | register => exact short _
  | heartbeat => exact short _
  | auth2 => exact short _
  | unrecognized cmd => exact short _
  | _ => cases hi

end Sys2Proof.Machine
end

section
/-! SUPPORT. The frame-sync machine of a whole payload (43_parser.md R171, R173). -/

namespace Sys2Proof.Machine

/-! ## One byte -/

/-- R171: what one byte makes of PARSE's machine. -/
theorem Codec.syncByte_true (c : Codec) (b : Byte) :
    c.syncByte true b = { c with
      U := c.U ++ if c.FS_STATE = FS_ESC then unitBytes b else if b = ESC then [] else [b]
      FS_STATE := if c.FS_STATE ≠ FS_ESC ∧ b = ESC then FS_ESC else FS_DATA
      FIRST_OK := if c.FS_STATE = FS_START then b == FLAG else c.FIRST_OK
      LAST_BYTE := b, IN_POS := c.IN_POS + 1 } := by
  have out : (c.syncByte true b).OUT = c.OUT := by
    by_cases hesc : c.FS_STATE = FS_ESC
    · rw [Codec.syncByte_pending hesc]
      rfl
    · rw [Codec.syncByte_notPending hesc, Codec.plainByte]
      split_ifs <;> rfl
  have appended : (c.syncByte true b).U = _ := Codec.syncByte_scanOutput true c b
  rw [Codec.syncByte_frame, out, appended, Codec.syncByte_FS_STATE, Codec.syncByte_FIRST_OK]
  rfl

/-! ## What the frame-sync machine leaves -/

/-- The codec with every register that a scanning machine may write at its reset value (R126, R171). -/
def Codec.maskScan (c : Codec) : Codec :=
  { c with U := [], OUT := [], FS_STATE := 0, FIRST_OK := false, LAST_BYTE := 0, IN_POS := 0 }

/-- R126, R171: a scan moves no other register. -/
theorem Codec.syncAll_maskScan (sync : Bool) (c : Codec) : (c.syncAll sync).maskScan = c.maskScan := by
  have scan : (c.IN.foldl (Codec.syncByte sync) c).maskScan = c.maskScan :=
    List.foldlRecOn c.IN (Codec.syncByte sync) (motive := fun d => d.maskScan = c.maskScan) rfl
      fun d hd b _ => by rw [Codec.syncByte_frame]; exact hd
  rw [Codec.syncAll, Codec.finishSync_frame]
  exact scan

theorem Codec.foldl_syncByte_IN_POS (sync : Bool) (B : Bytes) (c : Codec) :
    (B.foldl (Codec.syncByte sync) c).IN_POS = c.IN_POS + B.length := by
  induction B generalizing c with
  | nil => rfl
  | cons b rest ih =>
    rw [List.foldl_cons, ih, Codec.syncByte_IN_POS, List.length_cons]
    omega

/-- The codec once PARSE's frame-sync machine has read the whole payload (R171). -/
def Codec.synced (c : Codec) : Codec := (c.begin .sync).syncAll true

section
variable (c : Codec)

theorem Codec.synced_U : c.synced.U = unstuff c.IN :=
  Codec.finishSync_foldl_scanOutput true c.IN (c.begin_settled .sync).notPending

theorem Codec.synced_IN_POS : c.synced.IN_POS = c.NIN := by
  rw [Codec.synced, Codec.syncAll, Codec.finishSync_frame, Codec.foldl_syncByte_IN_POS]
  exact Nat.zero_add _

theorem Codec.synced_maskScan : c.synced.maskScan = (c.begin .sync).maskScan := Codec.syncAll_maskScan ..

theorem Codec.synced_frameValid : c.synced.frameValid = Reference.frameValid c.IN := by
  rw [Bool.eq_iff_iff, Codec.synced, Codec.syncAll_frameValid, Reference.frameValid]
  simp [FLAG]

end

/-! ## The flags -/

/-- R173: a closing flag completes no unit of the scan. -/
theorem unstuff_concat_flag (Y : Bytes) : unstuff (Y ++ [FLAG]) = unstuff Y ++ [FLAG] := by
  induction Y using scan_induction with
  | nil => rfl
  | trailing => rfl
  | plain b rest hb ih => rw [List.cons_append, unstuff_plain hb, unstuff_plain hb, ih, List.cons_append]
  | escape x rest ih => rw [List.cons_append, List.cons_append, unstuff_unit, unstuff_unit, ih, List.append_assoc]

/-- R172: a payload of at least two bytes between two flags. -/
theorem flags_interior {P : Bytes} (first : P.head? = some FLAG) (last : P.getLast? = some FLAG)
    (two : 2 ≤ P.length) : ∃ M, P = [FLAG] ++ M ++ [FLAG] := by
  obtain ⟨ys, rfl⟩ := List.getLast?_eq_some_iff.1 last
  cases ys with
  | nil => exact absurd two (by decide)
  | cons b M =>
    obtain rfl : b = FLAG := Option.some.inj first
    exact ⟨M, rfl⟩

end Sys2Proof.Machine
end

section
/-! SUPPORT. PARSE as a whole (43_parser.md R170): the registers no end of it moves, and its result. -/

namespace Sys2Proof.Machine

open Reference (bigEndian)

/-! ## From the payload to the end -/

/-- The codec with the header registers loaded from U, at dispatch (R175). -/
def Codec.headed (c : Codec) : Codec :=
  { c with H_CMD := be16 c.U 1, H_DEV := be48 c.U 5, H_SEQ := be16 c.U 11, phase := .dispatch }

/-- R175: the header registers hold the bytes of their fields. -/
theorem Codec.headed_fields {c : Codec} (long : 15 ≤ c.U.length) :
    slice c.U 1 3 = bytes16 c.headed.H_CMD ∧ slice c.U 5 11 = bytes48 c.headed.H_DEV ∧
    slice c.U 11 13 = bytes16 c.headed.H_SEQ :=
  ⟨(bytes16_be16 (a := 1) (by omega)).symm, (bytes48_be48_slice (a := 5) (by omega)).symm,
    (bytes16_be16 (a := 11) (by omega)).symm⟩

/-- What PARSE makes of the codec before the host sees it (R172 to R177). -/
def Codec.parsed (c : Codec) : Codec :=
  if Reference.frameValid c.IN then
    if (unstuff c.IN).length < 15 then c.synced.raise .malformed else c.synced.headed.dispatch
  else c.synced.raise .invalidFrame

section
variable {c : Codec}

theorem Codec.parsed_of_invalid (h : Reference.frameValid c.IN = false) : c.parsed = c.synced.raise .invalidFrame :=
  if_neg (Bool.eq_false_iff.1 h)

theorem Codec.parsed_of_short (h : Reference.frameValid c.IN = true) (short : (unstuff c.IN).length < 15) :
    c.parsed = c.synced.raise .malformed := (if_pos h).trans (if_pos short)

theorem Codec.parsed_of_long (h : Reference.frameValid c.IN = true) (long : 15 ≤ (unstuff c.IN).length) :
    c.parsed = c.synced.headed.dispatch := (if_pos h).trans (if_neg (not_lt.2 long))

end

/-- R172 to R177: everything PARSE can make of the codec. -/
theorem Codec.parsed_cases (c : Codec) :
    (Reference.frameValid c.IN = false ∧ c.parsed = c.synced.raise .invalidFrame) ∨
    (Reference.frameValid c.IN = true ∧ (unstuff c.IN).length < 15 ∧ c.parsed = c.synced.raise .malformed) ∨
    (Reference.frameValid c.IN = true ∧ 15 ≤ (unstuff c.IN).length ∧ c.parsed = c.synced.headed.dispatch) := by
  cases hv : Reference.frameValid c.IN with
  | false => exact .inl ⟨rfl, Codec.parsed_of_invalid hv⟩
  | true =>
    rcases lt_or_ge (unstuff c.IN).length 15 with short | long
    · exact .inr (.inl ⟨rfl, short, Codec.parsed_of_short hv short⟩)
    · exact .inr (.inr ⟨rfl, long, Codec.parsed_of_long hv long⟩)

theorem exec_parse_of_error {s : State} {st : Status} (h : s.cur.synced.loadHeader = .error st) :
    exec .parse s = s.putParse (s.cur.synced.raise st) := by
  unfold Codec.synced at h ⊢
  simp only [exec, execParse, h]

theorem exec_parse_of_ok {s : State} {d : Codec} (h : s.cur.synced.loadHeader = .ok d) :
    exec .parse s = s.putParse d.dispatch := by
  unfold Codec.synced at h
  simp only [exec, execParse, h]

/-- R170: a PARSE is what it makes of the codec served, shown to the host. -/
theorem exec_parse_eq (s : State) : exec .parse s = s.putParse s.cur.parsed := by
  have len : s.cur.synced.NU = (unstuff s.cur.IN).length := congrArg List.length s.cur.synced_U
  have valid := s.cur.synced_frameValid
  rcases s.cur.synced.loadHeader_cases with ⟨hv, hl⟩ | ⟨hv, hn, hl⟩ | ⟨hv, hn, hl⟩
  · rw [exec_parse_of_error hl, Codec.parsed_of_invalid (valid.symm.trans hv)]
  · rw [exec_parse_of_error hl, Codec.parsed_of_short (valid.symm.trans hv) (len ▸ hn)]
  · rw [exec_parse_of_ok hl, Codec.parsed_of_long (valid.symm.trans hv) (len ▸ hn), Codec.headed]

/-- R59: what is written back is what PARSE made of the codec, but for the host's side and the accumulators (R35). -/
theorem exec_parse_next {s t : State} (h : exec .parse s = .next t) :
    ∃ x cs a n, t = { s with frees := n, cur := { s.cur.parsed with session := x, CS_ACC := cs, BCD_ACC := a } } := by
  rw [exec_parse_eq] at h
  rcases s.putParse_cases s.cur.parsed with ⟨-, he⟩ | ⟨-, he⟩
  · cases he.symm.trans h
    exact ⟨_, _, _, _, rfl⟩
  · cases he.symm.trans h

/-! ## What no end of a PARSE moves -/

/-- The codec with every register that an end of a PARSE may write at its reset value (R25, R184, R271). -/
def Codec.maskEnd (c : Codec) : Codec :=
  (c.withBatch [] 0 0 0).raise .ok

/-- RESULT and TS_* hold nothing (R301). -/
def Codec.NoValue (c : Codec) : Prop :=
  c.RESULT = 0 ∧ c.TS_Y = 0 ∧ c.TS_MO = 0 ∧ c.TS_D = 0 ∧ c.TS_H = 0 ∧ c.TS_MI = 0 ∧ c.TS_S = 0

theorem Codec.raise_noValue (c : Codec) (st : Status) : (c.raise st).NoValue := ⟨rfl, rfl, rfl, rfl, rfl, rfl, rfl⟩

theorem Codec.Acted.maskEnd {c e : Codec} (h : c.Acted e) : e.maskEnd = c.maskEnd := by
  cases h <;> rfl

theorem Codec.Acted.noValue {c e : Codec} (h : c.Acted e) (hc : c.NoValue) : e.NoValue := by
  cases h with
  | raised => exact Codec.raise_noValue ..
  | answered => exact hc

theorem Codec.Acted.idle {c e : Codec} (h : c.Acted e) : e.BUSY = false := by
  cases h <;> rfl

/-- R177: the six actions dispatch can take, by all 16 bits of H_CMD. -/
theorem Codec.dispatch_cases (c : Codec) :
    (c.H_CMD = CMD_LOC_REPORT ∧ c.dispatch = c.locReport) ∨
    (c.H_CMD = CMD_BATCH_LOC ∧ c.dispatch = c.batchLoc) ∨
    (c.H_CMD = CMD_REGISTER ∧ c.dispatch = c.registerAck) ∨
    (c.H_CMD = CMD_HEARTBEAT ∧ c.dispatch = c.generalAck) ∨
    (c.H_CMD = CMD_AUTH2 ∧ c.dispatch = c.generalAck) ∨
    (unhandledCommand c.H_CMD = true ∧ c.dispatch = c.ignore) := by
  rw [unhandledCommand_iff]
  unfold Codec.dispatch
  split_ifs with h1 h2 h3 h4 h5
  · exact .inl ⟨h1, rfl⟩
  · exact .inr (.inl ⟨h2, rfl⟩)
  · exact .inr (.inr (.inl ⟨h3, rfl⟩))
  · exact .inr (.inr (.inr (.inl ⟨h4, rfl⟩)))
  · exact .inr (.inr (.inr (.inr (.inl ⟨h5, rfl⟩))))
  · exact .inr (.inr (.inr (.inr (.inr ⟨⟨h1, h2, h3, h4, h5⟩, rfl⟩))))

/-- No item has been walked (R301). -/
def Codec.NoBatch (c : Codec) : Prop := c.B_COUNT = 0 ∧ c.B_ITER = 0 ∧ c.B_POS = 0

/-- R220: only a batch moves the batch registers. -/
theorem Codec.dispatch_noBatch {c : Codec} (hc : c.NoBatch) (long : 15 ≤ c.NU) (h : c.H_CMD ≠ CMD_BATCH_LOC) :
    c.dispatch.NoBatch := by
  rcases c.dispatch_cases with ⟨-, e⟩ | ⟨hb, -⟩ | ⟨-, e⟩ | ⟨-, e⟩ | ⟨-, e⟩ | ⟨-, e⟩
  · rcases lt_or_ge c.NU (15 + 28) with short | fits
    · rw [e, Codec.locReport_of_short long short]
      exact hc
    · rw [e, Codec.locReport_of_long fits]
      exact hc
  · exact absurd hb h
  · rw [e, Codec.registerAck, Codec.checked_of_long long]
    exact hc
  · rw [e, Codec.generalAck, Codec.checked_of_long long]
    exact hc
  · rw [e, Codec.generalAck, Codec.checked_of_long long]
    exact hc
  · rw [e, Codec.ignore, Codec.checked_of_long long]
    exact hc

/-! ## What PARSE leaves in each register -/

section
variable (c : Codec)

theorem Codec.synced_noValue : c.synced.NoValue := by
  have kept := c.synced_maskScan
  exact ⟨congrArg Codec.RESULT kept, congrArg Codec.TS_Y kept, congrArg Codec.TS_MO kept, congrArg Codec.TS_D kept,
    congrArg Codec.TS_H kept, congrArg Codec.TS_MI kept, congrArg Codec.TS_S kept⟩

theorem Codec.synced_noBatch : c.synced.NoBatch := by
  have kept := c.synced_maskScan
  exact ⟨congrArg Codec.B_COUNT kept, congrArg Codec.B_ITER kept, congrArg Codec.B_POS kept⟩

theorem Codec.parsed_noValue : c.parsed.NoValue := by
  rcases c.parsed_cases with ⟨-, e⟩ | ⟨-, -, e⟩ | ⟨-, -, e⟩ <;> rw [e]
  · exact Codec.raise_noValue ..
  · exact Codec.raise_noValue ..
  · exact c.synced.headed.dispatch_acted.noValue c.synced_noValue

theorem Codec.parsed_idle : c.parsed.BUSY = false := by
  rcases c.parsed_cases with ⟨-, e⟩ | ⟨-, -, e⟩ | ⟨-, -, e⟩ <;> rw [e]
  · rfl
  · rfl
  · exact c.synced.headed.dispatch_acted.idle

/-- A register that no end writes is left by PARSE as the header step left it, if that step was reached. -/
theorem Codec.parsed_maskEnd : c.parsed.maskEnd =
    (if Reference.frameValid c.IN = true ∧ 15 ≤ (unstuff c.IN).length then c.synced.headed
      else c.synced).maskEnd := by
  rcases c.parsed_cases with ⟨hv, e⟩ | ⟨hv, hn, e⟩ | ⟨hv, hn, e⟩
  · rw [e, if_neg (by simp [hv])]
    rfl
  · rw [e, if_neg (by omega)]
    rfl
  · rw [e, if_pos ⟨hv, hn⟩]
    exact c.synced.headed.dispatch_acted.maskEnd

/-- R171: a register that neither an end nor the header step writes is left as the scan of the payload left it. -/
theorem Codec.parsed_register {α : Type} (f : Codec → α) (ends : ∀ d : Codec, f d.maskEnd = f d)
    (header : ∀ d : Codec, f d.headed = f d) : f c.parsed = f c.synced := by
  rw [← ends c.parsed, c.parsed_maskEnd, ends]
  split
  · exact header c.synced
  · rfl

theorem Codec.parsed_U : c.parsed.U = unstuff c.IN :=
  (c.parsed_register Codec.U (fun _ => rfl) fun _ => rfl).trans c.synced_U

theorem Codec.parsed_IN_POS : c.parsed.IN_POS = c.NIN :=
  (c.parsed_register Codec.IN_POS (fun _ => rfl) fun _ => rfl).trans c.synced_IN_POS

theorem Codec.parsed_FIRST_OK : c.parsed.FIRST_OK = (c.IN.head? == some FLAG) :=
  (c.parsed_register Codec.FIRST_OK (fun _ => rfl) fun _ => rfl).trans (Codec.syncAll_FIRST_OK .sync c)

theorem Codec.parsed_LAST_BYTE : c.parsed.LAST_BYTE = c.IN.getLast?.getD 0x00 :=
  (c.parsed_register Codec.LAST_BYTE (fun _ => rfl) fun _ => rfl).trans (Codec.syncAll_LAST_BYTE .sync c)

theorem Codec.parsed_OPSEL : c.parsed.OPSEL = c.OPSEL :=
  (c.parsed_register Codec.OPSEL (fun _ => rfl) fun _ => rfl).trans (congrArg Codec.OPSEL c.synced_maskScan :)

theorem Codec.parsed_IN : c.parsed.IN = c.IN :=
  (c.parsed_register Codec.IN (fun _ => rfl) fun _ => rfl).trans (congrArg Codec.IN c.synced_maskScan :)

end

/-- R175: the header registers hold the numbers of their fields once the frame is valid and long enough. -/
theorem Codec.parsed_header {c : Codec} (h : Reference.frameValid c.IN = true ∧ 15 ≤ (unstuff c.IN).length) :
    c.parsed.H_CMD.toNat = bigEndian (slice (unstuff c.IN) 1 3) ∧
    c.parsed.H_DEV.toNat = bigEndian (slice (unstuff c.IN) 5 11) ∧
    c.parsed.H_SEQ.toNat = bigEndian (slice (unstuff c.IN) 11 13) := by
  have ends := c.parsed_maskEnd
  rw [if_pos h] at ends
  have cmd : c.parsed.H_CMD = c.synced.headed.H_CMD := (congrArg Codec.H_CMD ends :)
  have dev : c.parsed.H_DEV = c.synced.headed.H_DEV := (congrArg Codec.H_DEV ends :)
  have seq : c.parsed.H_SEQ = c.synced.headed.H_SEQ := (congrArg Codec.H_SEQ ends :)
  have long : 15 ≤ c.synced.U.length := c.synced_U ▸ h.2
  obtain ⟨hcmd, hdev, hseq⟩ := Codec.headed_fields long
  rw [← c.synced_U, hcmd, hdev, hseq, bigEndian_bytes16, bigEndian_bytes16, bigEndian_bytes48, cmd, dev, seq]
  exact ⟨rfl, rfl, rfl⟩

/-- R33, R301: and nothing otherwise. -/
theorem Codec.parsed_noHeader {c : Codec} (h : ¬ (Reference.frameValid c.IN = true ∧ 15 ≤ (unstuff c.IN).length)) :
    c.parsed.H_CMD = 0 ∧ c.parsed.H_DEV = 0 ∧ c.parsed.H_SEQ = 0 := by
  have ends := c.parsed_maskEnd
  have kept := c.synced_maskScan
  rw [if_neg h] at ends
  exact ⟨(congrArg Codec.H_CMD ends :).trans (congrArg Codec.H_CMD kept :),
    (congrArg Codec.H_DEV ends :).trans (congrArg Codec.H_DEV kept :),
    (congrArg Codec.H_SEQ ends :).trans (congrArg Codec.H_SEQ kept :)⟩

/-- R220: the batch registers stay at their start values unless the message is a batch. -/
theorem Codec.parsed_noBatch {c : Codec} (h : ¬ (Reference.frameValid c.IN = true ∧ 15 ≤ (unstuff c.IN).length ∧
    slice (unstuff c.IN) 1 3 = [0x07, 0x04])) : c.parsed.NoBatch := by
  rcases c.parsed_cases with ⟨-, e⟩ | ⟨-, -, e⟩ | ⟨hv, hn, e⟩ <;> rw [e]
  · exact c.synced_noBatch
  · exact c.synced_noBatch
  · have long : 15 ≤ c.synced.U.length := c.synced_U ▸ hn
    have other : c.synced.headed.H_CMD ≠ CMD_BATCH_LOC := fun cmd => h ⟨hv, hn, by
      rw [← c.synced_U, (Codec.headed_fields long).1, cmd]
      rfl⟩
    exact Codec.dispatch_noBatch (c := c.synced.headed) c.synced_noBatch long other

/-! ## The result -/

/-- The codec `e` holds the status, the reports and the reply `r` (R170). -/
structure Codec.Yields (e : Codec) (r : Status × List Report × Bytes) : Prop where
  status : e.STATUS = r.1.code
  reports : e.RQ = r.2.1
  frame : e.OUT = r.2.2
  reply : e.REPLY_VALID = true ↔ r.1 = .ok

theorem Codec.raise_yields {st : Status} (h : st ≠ .ok) (c : Codec) : (c.raise st).Yields (st, [], []) :=
  ⟨rfl, rfl, rfl, iff_of_false Bool.false_ne_true h⟩

theorem Codec.answer_yields (c : Codec) (frame : Bytes) : (c.answer frame).Yields (.ok, c.RQ, frame) :=
  ⟨rfl, rfl, rfl, iff_of_true rfl rfl⟩

/-- R178, R216: one report, or MALFORMED for a body that has no room for it. -/
theorem Codec.locReport_yields {c : Codec} (long : 15 ≤ c.NU) :
    c.locReport.Yields (if (slice c.U 13 (c.NU - 2)).length < 28 then (.malformed, [], []) else
      (.ok, [Reference.report (bytes48 c.H_DEV) (slice c.U 13 (c.NU - 2))], c.ack8001)) := by
  have len : (slice c.U 13 (c.NU - 2)).length = c.NU - 15 := by
    rw [← Codec.bodyFrom_zero long, Codec.bodyFrom_length, Nat.sub_zero, Codec.BLEN, NU_MIN]
  rw [len]
  split
  · rw [Codec.locReport_of_short long (by omega)]
    exact Codec.raise_yields (by decide) c
  · rw [Codec.locReport_of_long (by omega)]
    exact Codec.answer_yields ..

theorem bytes16_injective : Function.Injective bytes16 := fun v w h => by
  obtain ⟨hi, lo⟩ := List.cons.inj h
  rw [← bytes16_append v, ← bytes16_append w, hi, List.singleton_inj.1 lo]

theorem Codec.generalAck_yields {c : Codec} (long : 15 ≤ c.NU) (noReports : c.RQ = []) :
    c.generalAck.Yields (.ok, [], c.ack8001) := by
  rw [Codec.generalAck, Codec.checked_of_long long, ← noReports]
  exact Codec.answer_yields ..

/-- R177 to R182: dispatch on the loaded header computes the reference function. -/
theorem Codec.dispatch_yields {c : Codec} (hv : Reference.frameValid c.IN = true)
    (hn : ¬ (unstuff c.IN).length < 15) : c.synced.headed.dispatch.Yields (Reference.parse c.IN) := by
  unfold Reference.parse
  rw [if_neg (by simp [hv]), if_neg hn]
  rw [← c.synced_U] at hn ⊢
  have long : 15 ≤ c.synced.headed.NU := not_lt.1 hn
  have noReports : c.synced.headed.RQ = [] := congrArg Codec.RQ c.synced_maskScan
  obtain ⟨cmd, dev, seq⟩ := Codec.headed_fields (c := c.synced) long
  rw [dev, seq]
  rcases c.synced.headed.dispatch_cases with
    ⟨h, e⟩ | ⟨h, e⟩ | ⟨h, e⟩ | ⟨h, e⟩ | ⟨h, e⟩ | ⟨h, e⟩ <;> rw [e]
  · have cmd : slice c.synced.U 1 3 = [0x02, 0x00] := cmd.trans (congrArg bytes16 h)
    rw [if_pos cmd]
    exact Codec.locReport_yields long
  · have cmd : slice c.synced.U 1 3 = [0x07, 0x04] := cmd.trans (congrArg bytes16 h)
    rw [if_neg (by rw [cmd]; decide), if_pos cmd]
    cases items : Reference.batchItems (slice c.synced.U 13 (c.synced.U.length - 2)) with
    | none =>
      obtain ⟨_, _, _, raised⟩ := Codec.batchLoc_of_none (c := c.synced.headed) long items
      rw [raised]
      exact Codec.raise_yields (by decide) _
    | some bodies =>
      rw [Codec.batchLoc_of_items (c := c.synced.headed) long items, Codec.walkStart_passItems]
      exact Codec.answer_yields ..
  · have cmd : slice c.synced.U 1 3 = [0x01, 0x00] := cmd.trans (congrArg bytes16 h)
    rw [if_neg (by rw [cmd]; decide), if_neg (by rw [cmd]; decide), if_pos cmd, Codec.registerAck,
      Codec.checked_of_long long, ← noReports]
    exact Codec.answer_yields ..
  · have cmd : slice c.synced.U 1 3 = [0x00, 0x02] := cmd.trans (congrArg bytes16 h)
    rw [if_neg (by rw [cmd]; decide), if_neg (by rw [cmd]; decide), if_neg (by rw [cmd]; decide), if_pos (.inl cmd)]
    exact Codec.generalAck_yields long noReports
  · have cmd : slice c.synced.U 1 3 = [0x01, 0x02] := cmd.trans (congrArg bytes16 h)
    rw [if_neg (by rw [cmd]; decide), if_neg (by rw [cmd]; decide), if_neg (by rw [cmd]; decide), if_pos (.inr cmd)]
    exact Codec.generalAck_yields long noReports
  · obtain ⟨h1, h2, h3, h4, h5⟩ := unhandledCommand_iff.1 h
    have other {w : BitVec 16} (hw : c.synced.headed.H_CMD ≠ w) : slice c.synced.U 1 3 ≠ bytes16 w :=
      fun same => hw (bytes16_injective (cmd.symm.trans same))
    have noLoc : slice c.synced.U 1 3 ≠ [0x02, 0x00] := other h1
    have noBatch : slice c.synced.U 1 3 ≠ [0x07, 0x04] := other h2
    have noRegister : slice c.synced.U 1 3 ≠ [0x01, 0x00] := other h3
    have noAck : ¬ (slice c.synced.U 1 3 = [0x00, 0x02] ∨ slice c.synced.U 1 3 = [0x01, 0x02]) :=
      not_or.2 ⟨other h4, other h5⟩
    rw [if_neg noLoc, if_neg noBatch, if_neg noRegister, if_neg noAck, Codec.ignore, Codec.checked_of_long long]
    exact Codec.raise_yields (by decide) _

/-- R170: PARSE computes the reference function of its payload. -/
theorem Codec.parsed_yields (c : Codec) : c.parsed.Yields (Reference.parse c.IN) := by
  rcases c.parsed_cases with ⟨hv, e⟩ | ⟨hv, hn, e⟩ | ⟨hv, hn, e⟩ <;> rw [e]
  · rw [Reference.parse, if_pos hv]
    exact Codec.raise_yields (by decide) _
  · rw [Reference.parse, if_neg (by simp [hv]), if_pos hn]
    exact Codec.raise_yields (by decide) _
  · exact Codec.dispatch_yields hv (not_lt.2 hn)

end Sys2Proof.Machine
end

section
/-! SUPPORT. A status other than OK publishes nothing (43_parser.md R183, 60_exceptions.md R271). -/

namespace Sys2Proof.Machine

/-- A codec whose transaction published nothing: no report, no reply, no result (R183, R271), and on the host's side `x`
no reply owed that was not owed before. -/
structure Codec.Silent (x : Session) (e : Codec) : Prop where
  noReports : e.RQ = []
  noReply : e.REPLY_VALID = false
  noFrame : e.OUT = []
  noValue : e.NoValue
  idle : e.BUSY = false
  owed : e.session.owesReply = x.owesReply

theorem Codec.raise_silent (c : Codec) (st : Status) : (c.raise st).Silent c.session :=
  ⟨rfl, rfl, rfl, Codec.raise_noValue c st, rfl, rfl⟩

/-- Whatever an instruction answers with, its status is OK or it published nothing. -/
def OkOrSilent (x : Session) : Result → Prop
  | .next t => t.cur.STATUS = 0 ∨ t.cur.Silent x
  | .fault _ => True
  | .refused _ => True

theorem okOrSilent_putComposite {x : Session} {c : Codec} (h : c.STATUS = 0 ∨ c.Silent x) (s : State) :
    OkOrSilent x (s.putComposite c) := h.imp id fun h => { h with }

theorem okOrSilent_putParse {x : Session} {c : Codec} (h : c.STATUS = 0 ∨ c.Silent x) (s : State) :
    OkOrSilent x (s.putParse c) := by
  unfold State.putParse
  split
  · refine okOrSilent_putComposite ?_ s
    by_cases hok : c.STATUS = 0
    · exact .inl hok
    · have silent := h.resolve_left hok
      refine .inr { silent with owed := ?_ }
      rw [Codec.withSession_session, Session.owesReply_owe, Codec.duties_of_error hok, Bool.or_false, silent.owed]
  · trivial

theorem Codec.Acted.okOrSilent {c e : Codec} (h : c.Acted e) : e.STATUS = 0 ∨ e.Silent c.session := by
  cases h with
  | @raised st _ count iter pos => exact .inr ((c.withBatch c.RQ count iter pos).raise_silent st)
  | answered => exact .inl rfl

theorem Codec.build8001Op_okOrSilent (c : Codec) : c.build8001Op.STATUS = 0 ∨ c.build8001Op.Silent c.session := by
  unfold Codec.build8001Op
  split
  · exact .inr (c.raise_silent _)
  · exact .inl rfl

theorem Codec.build8100Op_okOrSilent (c : Codec) : c.build8100Op.STATUS = 0 ∨ c.build8100Op.Silent c.session := by
  unfold Codec.build8100Op
  split
  · exact .inr (c.raise_silent _)
  · exact .inl rfl

theorem exec_okOrSilent {i : Instr} (hi : i.format ≠ .esc) (s : State) : OkOrSilent s.cur.session (exec i s) := by
  have action (ha : i.format = .cmdid16) : OkOrSilent s.cur.session (exec i s) := by
    obtain ⟨e, he, hact⟩ := exec_action ha s
    exact he ▸ okOrSilent_putParse hact.okOrSilent s
  cases i with
  | unstuff => exact .inl rfl
  | stuff => exact .inl rfl
  | checksum => exact .inl rfl
  | bcd2dec =>
    simp only [exec, execBcd2dec]
    split
    · exact .inr ((s.cur.begin (.bcd2dec 0)).raise_silent .badOperand)
    · exact .inl rfl
  | bcd2ts =>
    simp only [exec, execBcd2ts]
    split
    · exact okOrSilent_putComposite (.inr ((s.cur.begin (.bcd2ts 0)).raise_silent .badOperand)) _
    · exact .inl rfl
  | parse =>
    rcases exec_parse s with ⟨-, he⟩ | ⟨d, e, -, he, settled, hact⟩
    · have kept : ((s.cur.begin .sync).syncAll true).session = s.cur.session :=
        (Codec.syncAll_settled true .sync s.cur).session
      exact he ▸ okOrSilent_putParse (.inr (kept ▸ Codec.raise_silent ..)) s
    · exact he ▸ okOrSilent_putParse (settled.session ▸ hact.okOrSilent) s
  | build8001 => exact okOrSilent_putComposite (Codec.build8001Op_okOrSilent _) s
  | build8100 => exact okOrSilent_putComposite (Codec.build8100Op_okOrSilent _) s
  | reply8001 => exact okOrSilent_putComposite (Codec.build8001Op_okOrSilent _) s
  | reply8100 => exact okOrSilent_putComposite (Codec.build8100Op_okOrSilent _) s
  | locReport | batchLoc | register | heartbeat | auth2 | unrecognized => exact action rfl
  | escFlag | escEsc | escOther | escTrailing => exact absurd rfl hi

end Sys2Proof.Machine
end

section
/-! PROOFS. The statements about PARSE and its dispatch actions (43_parser.md). -/

namespace Sys2Proof.Machine

/-- Settles O16: what PARSE makes of the codec holds the reference result, shown to the host if the build admits it. -/
theorem parseMeetsReference : Obligations.ParseMeetsReference := by
  intro s
  have result := s.cur.parsed_yields
  obtain ⟨value, year, month, day, hour, minute, second⟩ := s.cur.parsed_noValue
  rw [exec_parse_eq, ← result.reports]
  refine ⟨fun fits => ?_, State.putParse_of_not_admits⟩
  exact ⟨_, State.putParse_of_admits fits, result.status, rfl, result.frame, result.reply, s.cur.parsed_idle,
    s.cur.parsed_OPSEL, s.cur.parsed_IN, value, year, month, day, hour, minute, second, rfl⟩

/-- Settles O17: register by register, by what an end and the header step write. -/
theorem parseInternalRegisters : Obligations.ParseInternalRegisters := by
  intro s t ht
  obtain ⟨_, _, _, _, rfl⟩ := exec_parse_next ht
  have firstOk : s.cur.parsed.FIRST_OK = true ↔ s.cur.IN.head? = some FLAG := by
    rw [s.cur.parsed_FIRST_OK, beq_iff_eq]
  refine ⟨s.cur.parsed_U, s.cur.parsed_IN_POS, firstOk, s.cur.parsed_LAST_BYTE, ?_,
    fun other => Codec.parsed_noBatch other⟩
  split
  · exact Codec.parsed_header ‹_›
  · exact Codec.parsed_noHeader ‹_›

/-- Settles O18: by the two flags. -/
theorem invalidFrameExactlyWithoutFlags : Obligations.InvalidFrameExactlyWithoutFlags := by
  intro s
  refine ⟨fun h => ?_, fun ⟨first, last⟩ t ht => exec_parse_status_ne first last ht⟩
  have hv : Reference.frameValid s.cur.IN = false := by
    rw [Bool.eq_false_iff, Reference.frameValid]
    simpa using h
  rw [exec_parse_eq, Codec.parsed_of_invalid hv, State.putParse_raise]
  exact ⟨_, rfl, rfl, rfl, rfl, rfl⟩

/-- Settles O19: the length check comes before dispatch. -/
theorem shortMessageMalformed : Obligations.ShortMessageMalformed := by
  intro s first last short
  have hv : Reference.frameValid s.cur.IN = true := by simp [Reference.frameValid, first, last]
  rw [exec_parse_eq, Codec.parsed_of_short hv short, State.putParse_raise]
  exact ⟨_, rfl, rfl, rfl, rfl, rfl⟩

/-- Settles O20: the body has room for a report. -/
theorem locReportResult : Obligations.LocReportResult := by
  intro s long
  have action : exec .locReport s = s.putParse s.cur.locReport := rfl
  rw [action, Codec.locReport_of_long long]
  refine ⟨fun fits => ?_, fun small => State.putParse_of_not_admits small⟩
  rw [State.putParse_answer fits]
  exact ⟨_, _, rfl, rfl, rfl⟩

/-- Settles O22: the walker passes the items. -/
theorem batchLocResult : Obligations.BatchLocResult := by
  intro s bodies long items
  have action : exec .batchLoc s = s.putParse s.cur.batchLoc := rfl
  have reports : (bodies.map (Reference.report (bytes48 s.cur.H_DEV))).length = bodies.length := List.length_map _
  rw [action, Codec.batchLoc_of_items long items, Codec.walkStart_passItems]
  refine ⟨fun fits => ?_, fun small => ?_⟩
  · rw [State.putParse_answer (reports ▸ fits)]
    have count := (be16 s.cur.U 13).isLt
    have fewer := Codec.batchItems_length long items
    exact ⟨_, rfl, rfl, rfl, Nat.mod_eq_of_lt (by omega), rfl⟩
  · exact State.putParse_of_not_admits (reports ▸ small)

/-- Settles O24: the body has no room for a report, or is no batch. -/
theorem badBodyMalformed : Obligations.BadBodyMalformed := by
  refine ⟨fun s long short => ?_, fun s long broken => ?_⟩
  · have action : exec .locReport s = s.putParse s.cur.locReport := rfl
    rw [action, Codec.locReport_of_short long short, State.putParse_malformed]
    exact ⟨_, rfl, rfl⟩
  · have action : exec .batchLoc s = s.putParse s.cur.batchLoc := rfl
    obtain ⟨count, iter, pos, raised⟩ := Codec.batchLoc_of_none long broken
    rw [action, raised, State.putParse_malformed]
    exact ⟨_, rfl, rfl⟩

/-- Settles O25: the three acknowledgements differ in the frame only. -/
theorem acknowledgementResults : Obligations.AcknowledgementResults := by
  intro s long noReports
  have ack (frame : Bytes) : s.putParse (s.cur.checked (s.cur.answer frame)) =
      s.putComposite (Reference.answered s.cur [] frame) := by
    rw [Codec.checked_of_long long, State.putParse_answer (by rw [noReports]; exact admits_zero _), noReports]
  exact ⟨⟨_, ack s.cur.ack8100, rfl⟩, ⟨_, ack s.cur.ack8001, rfl⟩, ⟨_, ack s.cur.ack8001, rfl⟩⟩

/-- Settles O30: the step is the machine's byte step, read row by row. -/
theorem frameSyncTable : Obligations.FrameSyncTable := by
  intro s b hnil hbusy hph hb hlegal
  obtain ⟨hpos, hget⟩ := List.getElem?_eq_some_iff.1 hb
  have byteStep : step s = .next { s with cur := s.cur.syncByte true b } := by
    rw [step_nil hnil, State.runStep_sync hbusy hph, State.runSync_byte (Codec.syncing_of_sync hph) hlegal hpos,
      byteAt_of_lt hpos, hget, State.put_eq]
  rw [byteStep, Codec.syncByte_true]
  refine ⟨fun hfs hb => ?_, fun hfs hb => ?_, fun hfs hesc hflag => ?_, fun hfs hb => ?_, fun hfs hesc => ?_,
    fun hfs hb => ?_, fun hfs hb => ?_, fun hfs hflag hesc => ?_⟩
  · rw [hfs, hb]; rfl
  · rw [hfs, hb]; rfl
  · have noFlag : (b == FLAG) = false := beq_false_of_ne hflag
    rw [hfs, if_neg (fun h => hesc h.2), if_neg (show b ≠ ESC from hesc), noFlag]; rfl
  · rw [hfs, hb]; rfl
  · rw [hfs, if_neg (fun h => hesc h.2), if_neg (show b ≠ ESC from hesc)]; rfl
  · rw [hfs, hb]; rfl
  · rw [hfs, hb]; rfl
  · have unit : unitBytes b = [ESC, b] := (if_neg hflag).trans (if_neg hesc)
    rw [hfs, unit]; rfl

/-- Settles O37: by the scan of the whole payload, and by the flags one after the other. -/
theorem unstuffedFrameKeepsFlags : Obligations.UnstuffedFrameKeepsFlags := by
  refine ⟨fun s t ht => ?_, fun P first last two => ?_⟩
  · obtain ⟨_, _, _, _, rfl⟩ := exec_parse_next ht
    exact s.cur.parsed_U
  · obtain ⟨M, rfl⟩ := flags_interior first last two
    have interior : slice ([FLAG] ++ M ++ [FLAG]) 1 (([FLAG] ++ M ++ [FLAG]).length - 1) = M := by
      simpa [Nat.add_comm 1] using slice_middle [FLAG] M [FLAG]
    calc unstuff ([FLAG] ++ M ++ [FLAG])
      _ = unstuff (FLAG :: M) ++ [FLAG] := unstuff_concat_flag (FLAG :: M)
      _ = [FLAG] ++ unstuff M ++ [FLAG] := by rw [unstuff_plain (by decide)]; rfl
      _ = _ := by rw [interior]; rfl

/-- Settles O44: whatever answers with another status than OK published nothing. -/
theorem errorsPublishNothing : Obligations.ErrorsPublishNothing := by
  intro i s t hi ht hst
  have outcome := exec_okOrSilent hi s
  rw [ht] at outcome
  obtain ⟨noReports, noReply, noFrame, noValue, idle, owed⟩ := outcome.resolve_left hst
  obtain ⟨result, year, month, day, hour, minute, second⟩ := noValue
  have noCount : t.cur.NREP = 0 := congrArg (fun Q => BitVec.ofNat 16 Q.length) noReports
  exact ⟨noReports, noCount, noReply, noFrame, congrArg List.length noFrame, result, year, month, day, hour, minute,
    second, idle, owed⟩

/-- Settles O26: the action raises its status. -/
theorem unrecognizedResult : Obligations.UnrecognizedResult := by
  intro s cmd long
  have action : exec (.unrecognized cmd) s = s.putParse s.cur.ignore := rfl
  rw [action, Codec.ignore, Codec.checked_of_long long, State.putParse_unrecognized]
  exact ⟨_, rfl, rfl⟩

/-- Settles O27: the length check stands before every action. -/
theorem actionsOnShortMessageMalformed : Obligations.ActionsOnShortMessageMalformed :=
  fun _ _ hi short => ⟨_, exec_action_of_short hi short, rfl⟩

/-- Settles O28: the step decodes H_CMD. -/
theorem dispatchIsExact : Obligations.DispatchIsExact := by
  intro s hnil hbusy hph
  have decoded : step s = exec (decodeCommand s.cur.H_CMD) s := by
    rw [step_nil hnil, State.runStep_dispatch hbusy hph, State.execDecoded_ok (decode_cmdid16_bytes16 _)]
  rw [decoded]
  refine ⟨fun h => ?_, fun h => ?_, fun h => ?_, fun h => ?_, fun h => ?_, fun h1 h2 h3 h4 h5 => ?_⟩
  · rw [h]; rfl
  · rw [h]; rfl
  · rw [h]; rfl
  · rw [h]; rfl
  · rw [h]; rfl
  · rw [decodeCommand_of_unhandled (unhandledCommand_iff.2 ⟨h1, h2, h3, h4, h5⟩)]

end Sys2Proof.Machine
end

section
/-! SUPPORT. The fields of a record (44_report_parser.md R211 to R214), and what a BATCH_LOC that ends OK read of its
message (R220 to R223). -/

namespace Sys2Proof.Machine

/-! ## The numbers of a record -/

theorem be16_toNat (B : Bytes) (a : Nat) :
    (be16 B a).toNat = (byteAt B a).toNat * 256 + (byteAt B (a + 1)).toNat := toNat_append ..

theorem be32_toNat (B : Bytes) (a : Nat) :
    (be32 B a).toNat =
      (((byteAt B a).toNat * 256 + (byteAt B (a + 1)).toNat) * 256 + (byteAt B (a + 2)).toNat) * 256 +
        (byteAt B (a + 3)).toNat := by
  rw [be32, toNat_append, be16_toNat, be16_toNat, Nat.add_assoc a 2 1]
  omega

/-- R178: the one record of a LOC_REPORT that answers begins at the first body byte. -/
theorem exec_locReport_RQ {s t : State} (long : 15 + 28 ≤ s.cur.NU) (h : exec .locReport s = .next t) :
    t.cur.RQ = [reportAt s.cur.U s.cur.H_DEV 13] := by
  obtain ⟨answers, refuses⟩ := locReportResult s long
  cases fits : admits s.cfg.RQ_DEPTH 1 with
  | false => cases h.symm.trans (refuses fits)
  | true =>
    obtain ⟨t', r, ht, hr, hrq⟩ := answers fits
    obtain rfl := Host.Outcome.next.inj (h.symm.trans ht)
    have room : 13 + 28 ≤ s.cur.NU - 2 := by omega
    rw [hrq, hr, report_slice room (Nat.sub_le ..)]
    rfl

/-! ## The message of a batch that ends OK -/

/-- A BATCH_LOC ends OK only where the body is a batch (R220), and then its registers count the items of that. -/
theorem exec_batchLoc_of_ok {s t : State} (h : exec .batchLoc s = .next t) (ok : t.cur.STATUS = 0) :
    15 ≤ s.cur.NU ∧ ∃ bodies, Reference.batchItems (slice s.cur.U 13 (s.cur.NU - 2)) = some bodies ∧
      t.cur.RQ = bodies.map (Reference.report (bytes48 s.cur.H_DEV)) ∧ t.cur.B_ITER.toNat = bodies.length ∧
      t.cur.B_POS = 3 + (bodies.map fun body => 2 + body.length).sum := by
  have long : 15 ≤ s.cur.NU := by
    by_contra short
    obtain rfl := Host.Outcome.next.inj (h.symm.trans (exec_action_of_short rfl (not_le.1 short)))
    cases ok
  refine ⟨long, ?_⟩
  cases items : Reference.batchItems (slice s.cur.U 13 (s.cur.NU - 2)) with
  | none =>
    obtain ⟨t', ht, malformed⟩ := badBodyMalformed.2 s long items
    obtain rfl := Host.Outcome.next.inj (h.symm.trans ht)
    rw [malformed] at ok
    cases ok
  | some bodies =>
    obtain ⟨answers, refuses⟩ := batchLocResult s bodies long items
    cases fits : admits s.cfg.RQ_DEPTH bodies.length with
    | false => cases h.symm.trans (refuses fits)
    | true =>
      obtain ⟨t', ht, written, -, iter, pos⟩ := answers fits
      obtain rfl := Host.Outcome.next.inj (h.symm.trans ht)
      exact ⟨bodies, rfl, by rw [written]; rfl, iter, pos⟩

/-! ## The bytes of a message that are read -/

theorem take_slice (B : Bytes) (a b k : Nat) : (slice B a b).take k = slice B a (min b (a + k)) := by
  rw [slice, slice, List.take_take]
  congr 1
  omega

/-- Sequences that agree for `m + k` bytes agree for `m`, and for `k` behind those. -/
theorem take_eq_and_take_drop_eq {A B : Bytes} {m k : Nat} (h : B.take (m + k) = A.take (m + k)) :
    B.take m = A.take m ∧ (B.drop m).take k = (A.drop m).take k := by
  have front := congrArg (List.take m) h
  have back := congrArg (List.drop m) h
  rw [List.take_take, List.take_take, Nat.min_eq_left (Nat.le_add_right ..)] at front
  rw [List.drop_take, List.drop_take, Nat.add_sub_cancel_left] at back
  exact ⟨front, back⟩

/-- R75, R220: the items of a batch end where the last one does; what follows is not looked at. -/
theorem items_of_take {n : Nat} {A B : Bytes} {bodies : List Bytes} (h : Reference.items n A = some bodies)
    (same : B.take (bodies.map fun body => 2 + body.length).sum = A.take (bodies.map fun body => 2 + body.length).sum) :
    Reference.items n B = some bodies := by
  induction n generalizing A B bodies with
  | zero => exact h
  | succ n ih =>
    match A with
    | [] | [_] => cases h
    | hi :: lo :: rest =>
      rw [items_succ_cons] at h
      split at h
      · cases h
      · rename_i fits
        obtain ⟨later, hl, rfl⟩ := Option.map_eq_some_iff.1 h
        have room : hi.toNat * 256 + lo.toNat ≤ rest.length := by omega
        rw [List.map_cons, List.sum_cons, List.length_take_of_le room, Nat.add_assoc, Nat.add_comm 2] at same
        match B with
        | [] | [_] => simp at same
        | hi' :: lo' :: rest' =>
          simp only [List.take_succ_cons, List.cons.injEq] at same
          obtain ⟨rfl, rfl, same⟩ := same
          obtain ⟨item, behind⟩ := take_eq_and_take_drop_eq same
          have room' := congrArg List.length item
          rw [List.length_take, List.length_take_of_le room] at room'
          rw [items_succ_cons, if_neg (by omega), ih hl behind, item]
          rfl

section
variable {c : Codec} {V : Bytes}

/-- R215, R216: a LOC_REPORT reads the CommandId and the bytes 8 to 27 of its body. -/
theorem Codec.locReport_withU (len : V.length = c.NU) (command : SameOn c.U V 1 3) (record : SameOn c.U V 21 41) :
    (c.withU V).locReport = c.locReport.withU V := by
  refine Codec.checked_withU len fun _ => ?_
  have lim : (c.withU V).NU - 2 = c.NU - 2 := congrArg (· - 2) len
  rw [lim, HDR_END, Codec.singleReport_withU fun _ => record, Codec.ack8001_withU command]
  cases c.singleReport 13 (c.NU - 2) <;> rfl

/-- R223: a batch of the same count with the same items is the same batch. -/
theorem Codec.batchItems_withU {bodies : List Bytes} (len : V.length = c.NU)
    (h : Reference.batchItems (c.bodyFrom 0) = some bodies) (count : SameOn c.U V 13 15)
    (same : SameOn c.U V 16 (16 + (bodies.map fun body => 2 + body.length).sum)) :
    Reference.batchItems ((c.withU V).bodyFrom 0) = some bodies := by
  rw [Codec.batchItems_eq] at h ⊢
  rw [Codec.withU_BLEN len, show be16 (c.withU V).U 13 = be16 c.U 13 from count.be16_eq le_rfl le_rfl]
  split at h
  · cases h
  · rename_i room
    rw [if_neg room]
    refine items_of_take h ?_
    rw [Codec.bodyFrom, Codec.bodyFrom, Codec.withU_BLEN len, take_slice, take_slice]
    exact (same.mono le_rfl (Nat.min_le_right ..)).slice_eq

/-- R223: and is answered the same. -/
theorem Codec.batchLoc_withU {bodies : List Bytes} (len : V.length = c.NU) (long : 15 ≤ c.NU)
    (h : Reference.batchItems (slice c.U 13 (c.NU - 2)) = some bodies)
    (command : SameOn c.U V 1 3) (count : SameOn c.U V 13 15)
    (same : SameOn c.U V 16 (16 + (bodies.map fun body => 2 + body.length).sum)) :
    (c.withU V).batchLoc = c.batchLoc.withU V := by
  have long' : 15 ≤ (c.withU V).NU := long.trans_eq len.symm
  have h' := Codec.batchItems_withU len (by rwa [Codec.bodyFrom_zero long]) count same
  rw [Codec.bodyFrom_zero long'] at h'
  rw [Codec.batchLoc_of_items long h, Codec.batchLoc_of_items long' h', Codec.walkStart_passItems,
    Codec.walkStart_passItems, Codec.ack8001_withU command,
    show be16 (c.withU V).U 13 = be16 c.U 13 from count.be16_eq le_rfl le_rfl]
  rfl

end

end Sys2Proof.Machine
end

section
/-! PROOFS. The statements about location reports and batches (44_report_parser.md). -/

namespace Sys2Proof.Machine

/-- Settles O21: the record is the one at the first body byte, and a record is what its raw bytes say. -/
theorem locReportFields : Obligations.LocReportFields := by
  intro s t r long ht hr b
  obtain rfl := List.singleton_inj.1 (hr.symm.trans (exec_locReport_RQ long ht))
  have legal := reportAt_legal s.cur.U s.cur.H_DEV 13
  have room : 35 + 6 ≤ s.cur.U.length := by
    change 43 ≤ s.cur.U.length at long
    omega
  have year (x : Byte) : (bcdYear x).toNat = 2000 + (x.toNat / 16 * 10 + x.toNat % 16) := by
    rw [bcdYear_toNat, bcdPair_eq]
  have field (x : Byte) : (bcdField x).toNat = x.toNat / 16 * 10 + x.toNat % 16 := by
    rw [bcdField_toNat, bcdPair_eq]
  exact ⟨be32_toNat .., be32_toNat .., be16_toNat .., be16_toNat .., be16_toNat .., (bigEndian_slice_six room).symm,
    year _, field _, field _, field _, field _, field _, rfl, legal.device, legal.deviceRange, legal.voltage⟩

/-- Settles O23: the items are one fewer than a 16-bit count. -/
theorem batchReportCount : Obligations.BatchReportCount := by
  intro s t ht ok
  obtain ⟨long, bodies, items, reports, iter, -⟩ := exec_batchLoc_of_ok ht ok
  have count := (be16 s.cur.U 13).isLt
  have fewer := Codec.batchItems_length long items
  have len : t.cur.RQ.length = bodies.length := by rw [reports, List.length_map]
  have nrep : t.cur.NREP.toNat = t.cur.RQ.length := Nat.mod_eq_of_lt (by omega)
  omega

/-- Settles O48: a LOC_REPORT reads nothing outside the bytes that stay. -/
theorem unreadReportBytesChangeNothing : Obligations.UnreadReportBytesChangeNothing := by
  intro s t V len same ht
  have read := Codec.locReport_withU len (fun j lo hi => same j (by omega)) (fun j lo hi => same j (by omega))
  exact State.putParse_withU read ht

/-- Settles O49: B_POS ends behind the last item. -/
theorem unreadBatchBytesChangeNothing : Obligations.UnreadBatchBytesChangeNothing := by
  intro s t V len ht ok same
  obtain ⟨long, bodies, items, -, -, pos⟩ := exec_batchLoc_of_ok ht ok
  have read := Codec.batchLoc_withU len long items (fun j lo hi => same j (by omega) (by omega))
    (fun j lo hi => same j (by omega) (by omega)) (fun j lo hi => same j (by omega) (by omega))
  exact State.putParse_withU read ht

end Sys2Proof.Machine
end

section
/-! SUPPORT. The reply frame (45_reply_builder.md R240): the fields of its message, what stands between its flags, and
what PARSE makes of it. -/

namespace Sys2Proof.Machine

/-- The slice at which `B` stands, nothing but `A` being before it. -/
theorem slice_of_prefix {M A B : Bytes} {a b : Nat} (h : A ++ B <+: M) (ha : A.length = a) (hb : a + B.length = b) :
    slice M a b = B := by
  obtain ⟨C, rfl⟩ := h
  subst ha hb
  exact slice_middle A B C

theorem be16_bytes16 (w : BitVec 16) (A B : Bytes) : be16 (A ++ (bytes16 w ++ B)) A.length = w := by
  simp [be16, byteAt, bytes16, bytes16_append]

/-- R182: dispatch ignores a CommandId outside the five handled values. -/
theorem Codec.dispatch_of_unhandled {c : Codec} (h : unhandledCommand c.H_CMD = true) : c.dispatch = c.ignore := by
  obtain ⟨h1, h2, h3, h4, h5⟩ := unhandledCommand_iff.1 h
  rw [Codec.dispatch, if_neg h1, if_neg h2, if_neg h3, if_neg h4, if_neg h5]

section
variable (rc : BitVec 16) (dev seq body : Bytes)

/-! ## The message -/

/-- R240: the fields stand in this order, the checksum after them. -/
theorem replyMessage_fields :
    bytes16 rc ++ bytes16 (BitVec.ofNat 16 body.length) ++ dev ++ seq ++ body <+: replyMessage rc dev seq body :=
  List.prefix_append ..

theorem replyMessage_length (hdev : dev.length = 6) (hseq : seq.length = 2) :
    (replyMessage rc dev seq body).length = 13 + body.length := by
  simp only [replyMessage, List.length_append, bytes16_length, List.length_singleton, hdev, hseq]
  omega

/-- R245: the checksum byte makes the XOR of the whole message 0. -/
theorem checksum_replyMessage : checksum (replyMessage rc dev seq body) = 0x00 := by
  rw [replyMessage, checksum_append, checksum_singleton]
  exact BitVec.xor_self

/-! ## The frame around it -/

/-- R240: between the flags stands the stuffed message. -/
theorem replyFrame_interior :
    slice (replyFrame rc dev seq body) 1 ((replyFrame rc dev seq body).length - 1) =
      stuff (replyMessage rc dev seq body) := by
  refine slice_of_prefix (A := [FLAG]) (List.prefix_append ..) rfl ?_
  rw [replyFrame, List.length_append, List.length_append, List.length_singleton, Nat.add_sub_cancel]

/-- R173, R240: the scan of the whole frame keeps its flags and gives the message back. -/
theorem unstuff_replyFrame :
    unstuff (replyFrame rc dev seq body) = [FLAG] ++ replyMessage rc dev seq body ++ [FLAG] := by
  rw [replyFrame, unstuff_concat_flag, List.singleton_append, unstuff_plain (by decide), unstuff_stuff]
  rfl

theorem replyFrame_valid : Reference.frameValid (replyFrame rc dev seq body) = true := by
  rw [Reference.frameValid, replyFrame, List.getLast?_concat]
  rfl

end

section
variable {rc : BitVec 16} {dev seq body : Bytes}

/-! ## PARSE of the frame -/

/-- R246: PARSE reads the reply id of the frame as its CommandId. -/
theorem Codec.headed_H_CMD_of_replyFrame {c : Codec} (h : c.IN = replyFrame rc dev seq body) :
    c.synced.headed.H_CMD = rc := by
  have scanned : c.synced.U = [FLAG] ++ replyMessage rc dev seq body ++ [FLAG] := by
    rw [c.synced_U, h, unstuff_replyFrame]
  rw [Codec.headed, scanned, replyMessage]
  simp only [List.append_assoc]
  exact be16_bytes16 rc [FLAG] _

/-- R182, R246: a frame whose reply id is no handled CommandId is ignored. -/
theorem exec_parse_replyFrame {s : State} (h : s.cur.IN = replyFrame rc dev seq body) (hdev : dev.length = 6)
    (hseq : seq.length = 2) (unhandled : unhandledCommand rc = true) :
    exec .parse s = s.putComposite (Reference.raised s.cur.synced.headed 2 []) := by
  have valid : Reference.frameValid s.cur.IN = true := h ▸ replyFrame_valid ..
  have long : 15 ≤ (unstuff s.cur.IN).length := by
    rw [h, unstuff_replyFrame, List.length_append, List.length_append, replyMessage_length _ _ _ _ hdev hseq,
      List.length_singleton]
    omega
  have scanned : s.cur.synced.headed.NU = (unstuff s.cur.IN).length := congrArg List.length s.cur.synced_U
  have ignored := Codec.dispatch_of_unhandled (Codec.headed_H_CMD_of_replyFrame h ▸ unhandled)
  rw [exec_parse_eq, Codec.parsed_of_long valid long, ignored, Codec.ignore,
    Codec.checked_of_long (long.trans_eq scanned.symm), State.putParse_unrecognized]

end

end Sys2Proof.Machine
end

section
/-! PROOFS. The statements about the reply builder (45_reply_builder.md). -/

namespace Sys2Proof.Machine

/-- Settles O14: the reply-building step right after the start, for the fields of IN or for another length. -/
theorem build8001Result : Obligations.Build8001Result := by
  refine ⟨fun s dev seq cmd hin hdev hseq hcmd => ?_, fun s hlen => ?_⟩
  · have built := Codec.build8001Op_of_fields (c := s.cur.begin (.reply ACK_GENERAL)) hin hdev hseq hcmd
    rw [exec, execBuild8001, built]
    exact ⟨_, rfl, rfl, rfl⟩
  · have raised := Codec.build8001Op_of_length (c := s.cur.begin (.reply ACK_GENERAL)) hlen
    rw [exec, execBuild8001, raised]
    exact ⟨_, rfl, rfl⟩

/-- Settles O15: the reply-building step right after the start, for the fields of IN or for another length. -/
theorem build8100Result : Obligations.Build8100Result := by
  refine ⟨fun s dev seq hin hdev hseq => ?_, fun s hlen => ?_⟩
  · have built := Codec.build8100Op_of_fields (c := s.cur.begin (.reply ACK_REGISTER)) hin hdev hseq
    rw [exec, execBuild8100, built]
    exact ⟨_, rfl, rfl, rfl⟩
  · have raised := Codec.build8100Op_of_length (c := s.cur.begin (.reply ACK_REGISTER)) hlen
    rw [exec, execBuild8100, raised]
    exact ⟨_, rfl, rfl⟩

/-- Settles O41: stuffing leaves no flag between the two. -/
theorem replyFrameFlags : Obligations.ReplyFrameFlags :=
  fun _ _ _ _ => ⟨_, rfl, flag_notMem_stuff _⟩

/-- Settles O42: unstuffing gives the message back, and each field follows those before it. -/
theorem replyFrameRecoversFields : Obligations.ReplyFrameRecoversFields := by
  intro rc dev seq body hdev hseq short
  simp only [replyFrame_interior, unstuff_stuff]
  have toBody := replyMessage_fields rc dev seq body
  have toSeq := (List.prefix_append _ body).trans toBody
  have toDev := (List.prefix_append _ seq).trans toSeq
  have toLen := (List.prefix_append _ dev).trans toDev
  have toId := (List.prefix_append (bytes16 rc) _).trans toLen
  have len := slice_of_prefix (a := 2) (b := 4) toLen rfl rfl
  refine ⟨slice_of_prefix (A := []) toId rfl rfl, ?_, slice_of_prefix toDev rfl ?_, slice_of_prefix toSeq ?_ ?_,
    slice_of_prefix toBody ?_ rfl, replyMessage_length rc dev seq body hdev hseq, checksum_replyMessage ..⟩
  · rw [len, bigEndian_bytes16]
    exact Nat.mod_eq_of_lt short
  all_goals simp [hdev, hseq]

/-- Settles O43: neither reply id is a handled CommandId. -/
theorem ownRepliesUnrecognized : Obligations.OwnRepliesUnrecognized := by
  intro s dev seq cmd hdev hseq _ hin
  rcases hin with h | h
  · exact ⟨_, exec_parse_replyFrame h hdev hseq (by decide), rfl, rfl, rfl⟩
  · exact ⟨_, exec_parse_replyFrame h hdev hseq (by decide), rfl, rfl, rfl⟩

end Sys2Proof.Machine
end

section
/-! SUPPORT. Runs of the machine of bounded length, with no move scheduled (R310; log 4). -/

namespace Sys2Proof.Machine

/-- The codec served becomes `c`. -/
def State.withCur (c : Codec) (s : State) : State := { s with cur := c }

@[simp] theorem State.withCur_cur (c : Codec) (s : State) : (s.withCur c).cur = c := rfl

theorem State.step_withCur {s : State} (hs : s.script = []) (c : Codec) : step (s.withCur c) = (s.withCur c).runStep :=
  step_nil hs

/-- A run of at most `n` steps that no fault or refusal stopped. -/
def State.Reaches (n : Nat) (s t : State) : Prop := ∃ m ≤ n, s.Runs m t

theorem State.Runs.of_step {n : Nat} {s u t : State} (h : step s = .next u) (hu : u.Runs n t) : s.Runs (n + 1) t := by
  have first : Sys2Proof.core.step s = .next u := h
  simp only [State.Runs, Host.Core.run, first]
  exact hu

section
variable {n : Nat} {s t u : State}

theorem State.Reaches.of_step (h : step s = .next u) (hu : u.Reaches n t) : s.Reaches (n + 1) t := by
  obtain ⟨m, hm, hrun⟩ := hu
  exact ⟨m + 1, Nat.succ_le_succ hm, hrun.of_step h⟩

theorem State.Reaches.last (h : step s = .next t) : s.Reaches 1 t := .of_step h ⟨0, le_rfl, rfl⟩

theorem State.Reaches.mono {m : Nat} (h : s.Reaches m t) (hm : m ≤ n) : s.Reaches n t := by
  obtain ⟨k, hk, hrun⟩ := h
  exact ⟨k, hk.trans hm, hrun⟩

/-- A chain of steps in front of a run. -/
theorem State.Reaches.of_chain {S : Nat → State} (hS : ∀ i < n, step (S i) = .next (S (i + 1))) {m : Nat}
    (h : (S n).Reaches m t) : (S 0).Reaches (n + m) t := by
  induction n generalizing m with
  | zero => rwa [Nat.zero_add]
  | succ n ih =>
    have longer := ih (fun i hi => hS i (by omega)) (h.of_step (hS n (by omega)))
    exact longer.mono (by omega)

end

end Sys2Proof.Machine
end

section
/-! SUPPORT. The byte-serial machines run to their ends (R105, R126, R127, R152, R171, R310): how many steps each takes
from its start, and that it ends as the fold over IN that the whole transaction is. -/

namespace Sys2Proof.Machine

/-! ## The machines that index IN themselves -/

section
variable {f : Codec → Byte → Codec}

/-- What the byte-serial steps of such a machine are: one byte at `place i`, and `finish` past the last. -/
structure Codec.Sequenced (f : Codec → Byte → Codec) (place : Nat → Phase) (finish : Codec → Codec) : Prop where
  indexed : Codec.Indexed f
  busy : ∀ c b, (f c b).BUSY = c.BUSY
  finishPhase : ∀ ph c, finish (c.withPhase ph) = finish c
  step : ∀ {s : State} {c : Codec} {i : Nat}, c.BUSY = true → c.phase = place i →
    (s.withCur c).runStep =
      if i < c.NIN then s.put ((f c (byteAt c.IN i)).withPhase (place (i + 1))) else s.put (finish c)

theorem State.runStep_stuff {s : State} {i : Nat} (hb : s.cur.BUSY = true) (hp : s.cur.phase = .stuff i) :
    s.runStep = s.stuffStep i := by
  simp [State.runStep, hb, hp]

theorem State.runStep_checksum {s : State} {i : Nat} (hb : s.cur.BUSY = true) (hp : s.cur.phase = .checksum i) :
    s.runStep = s.checksumStep i := by
  simp [State.runStep, hb, hp]

theorem State.runStep_bcd2dec {s : State} {i : Nat} (hb : s.cur.BUSY = true) (hp : s.cur.phase = .bcd2dec i) :
    s.runStep = s.bcd2decStep i := by
  simp [State.runStep, hb, hp]

theorem Codec.stuff_sequenced : Codec.Sequenced Codec.stuffByte .stuff (Codec.complete .ok) :=
  ⟨Codec.stuffByte_indexed, fun _ _ => rfl, fun _ _ => rfl,
    fun {s c _} => State.runStep_stuff (s := s.withCur c)⟩

theorem Codec.checksum_sequenced : Codec.Sequenced Codec.checksumByte .checksum Codec.checksumDone :=
  ⟨Codec.checksumByte_indexed, fun _ _ => rfl, fun _ _ => rfl,
    fun {s c _} => State.runStep_checksum (s := s.withCur c)⟩

theorem Codec.bcd2dec_sequenced : Codec.Sequenced Codec.bcdByte .bcd2dec Codec.bcdDone :=
  ⟨Codec.bcdByte_indexed, fun _ _ => rfl, fun _ _ => rfl,
    fun {s c _} => State.runStep_bcd2dec (s := s.withCur c)⟩

/-- The machine `f` after the first `i` bytes of IN, from a start in phase `ph`. -/
def Codec.afterBytes (f : Codec → Byte → Codec) (ph : Phase) (i : Nat) (c : Codec) : Codec :=
  (c.IN.take i).foldl f (c.begin ph)

theorem Codec.afterBytes_NIN (f : Codec → Byte → Codec) (ph : Phase) (c : Codec) :
    c.afterBytes f ph c.NIN = c.IN.foldl f (c.begin ph) := by
  rw [Codec.afterBytes, List.take_length]

theorem Codec.afterBytes_succ {c : Codec} {i : Nat} (hi : i < c.NIN) (f : Codec → Byte → Codec) (ph : Phase) :
    c.afterBytes f ph (i + 1) = f (c.afterBytes f ph i) (byteAt c.IN i) := by
  rw [Codec.afterBytes, ← List.take_concat_get' _ _ hi, List.foldl_concat, byteAt_of_lt hi]
  rfl

section
variable {place : Nat → Phase} {finish : Codec → Codec} (h : Codec.Sequenced f place finish)
include h

theorem Codec.Sequenced.afterBytes_withPhase (ph ph' : Phase) (i : Nat) (c : Codec) :
    (c.afterBytes f ph i).withPhase ph' = c.afterBytes f ph' i :=
  (List.foldl_hom (Codec.withPhase ph') (h.indexed.phase ph')).symm

theorem Codec.Sequenced.afterBytes_request (ph : Phase) (i : Nat) (c : Codec) :
    (c.afterBytes f ph i).IN = c.IN :=
  List.foldlRecOn (motive := fun d : Codec => d.IN = c.IN) _ f rfl
    fun d hd b _ => (congrArg Codec.IN (h.indexed.request ph d b) :).trans hd

theorem Codec.Sequenced.afterBytes_BUSY (ph : Phase) (i : Nat) (c : Codec) : (c.afterBytes f ph i).BUSY = true :=
  List.foldlRecOn (motive := fun d : Codec => d.BUSY = true) _ f rfl fun d hd b _ => (h.busy d b).trans hd

theorem Codec.Sequenced.afterBytes_phase (ph : Phase) (i : Nat) (c : Codec) : (c.afterBytes f ph i).phase = ph :=
  (congrArg Codec.phase (h.afterBytes_withPhase ph ph i c) :).symm

/-- R105, R127, R152: one step a byte and one for the end. -/
theorem Codec.Sequenced.reaches {s : State} (hs : s.script = []) (c : Codec) :
    (s.withCur (c.begin (place 0))).Reaches (c.NIN + 1)
      (s.withCur (finish (c.IN.foldl f (c.begin (place 0))))) := by
  have request (i : Nat) := h.afterBytes_request (place i) i c
  have busy (i : Nat) := h.afterBytes_BUSY (place i) i c
  have phase (i : Nat) := h.afterBytes_phase (place i) i c
  refine State.Reaches.of_chain (S := fun i => s.withCur (c.afterBytes f (place i) i)) (fun i hi => ?_) (.last ?_)
  · have inside : i < (c.afterBytes f (place i) i).NIN := hi.trans_eq (congrArg List.length (request i)).symm
    have next : (f (c.afterBytes f (place i) i) (byteAt c.IN i)).withPhase (place (i + 1)) =
        c.afterBytes f (place (i + 1)) (i + 1) := by
      rw [← Codec.afterBytes_succ hi f, h.afterBytes_withPhase]
    rw [State.step_withCur hs, h.step (busy i) (phase i), if_pos inside, request, next]
    rfl
  · have past : (c.afterBytes f (place c.NIN) c.NIN).NIN ≤ c.NIN := (congrArg List.length (request _)).le
    rw [State.step_withCur hs, h.step (busy _) (phase _), if_neg (not_lt.2 past), ← h.finishPhase (place 0),
      h.afterBytes_withPhase, Codec.afterBytes_NIN]
    rfl

end

end

/-! ## The scanning machine -/

theorem State.runStep_scan {sync : Bool} {s : State} (hb : s.cur.BUSY = true) (hp : s.cur.phase = scanPhase sync) :
    s.runStep = s.runSync sync := by
  cases sync with
  | true => exact State.runStep_sync hb hp
  | false => exact State.runStep_unstuff hb hp

theorem Codec.foldl_syncByte_phase (sync : Bool) (B : Bytes) (c : Codec) :
    (B.foldl (Codec.syncByte sync) c).phase = c.phase :=
  List.foldlRecOn (motive := fun d : Codec => d.phase = c.phase) B _ rfl fun d hd b _ => by
    rw [Codec.syncByte_frame]
    exact hd

/-- R126: a scan ends with the cursor at NIN, in the phase it began in. -/
theorem Codec.syncAll_end (sync : Bool) (ph : Phase) (c : Codec) :
    ((c.begin ph).syncAll sync).IN_POS = c.NIN ∧ ((c.begin ph).syncAll sync).phase = ph := by
  rw [Codec.syncAll, Codec.finishSync_frame]
  refine ⟨?_, Codec.foldl_syncByte_phase ..⟩
  exact (Codec.foldl_syncByte_IN_POS ..).trans (Nat.zero_add _)

/-- The scanning machine after the first `i` bytes of IN. -/
def Codec.scanTo (sync : Bool) (i : Nat) (c : Codec) : Codec := c.afterBytes (Codec.syncByte sync) (scanPhase sync) i

/-- The whole scan, its finish included; of PARSE's machine, `Codec.synced`. -/
def Codec.scanAll (sync : Bool) (c : Codec) : Codec := (c.begin (scanPhase sync)).syncAll sync

theorem Codec.scanTo_finish (sync : Bool) (c : Codec) : (c.scanTo sync c.NIN).finishSync sync = c.scanAll sync := by
  rw [Codec.scanTo, Codec.afterBytes_NIN]
  rfl

/-- R126, R171: the scan is a running transaction, with its cursor at the next byte. -/
theorem Codec.scanTo_frame (sync : Bool) {i : Nat} {c : Codec} (hi : i ≤ c.NIN) :
    (c.scanTo sync i).Live c.session ∧ (c.scanTo sync i).phase = scanPhase sync ∧ (c.scanTo sync i).IN = c.IN ∧
    (c.scanTo sync i).IN_POS = i := by
  have cursor : (c.begin (scanPhase sync)).IN_POS + (c.IN.take i).length = i := by
    rw [List.length_take_of_le hi, Codec.begin_IN_POS, Nat.zero_add]
  exact ⟨(c.begin_settled _).foldl_syncByte sync _ (cursor.trans_le hi), Codec.foldl_syncByte_phase ..,
    Codec.foldl_syncByte_IN .., (Codec.foldl_syncByte_IN_POS ..).trans cursor⟩

section
variable {sync : Bool} {s t : State} {c : Codec}

theorem State.step_scanTo (hs : s.script = []) {i : Nat} (hi : i < c.NIN) :
    step (s.withCur (c.scanTo sync i)) = .next (s.withCur (c.scanTo sync (i + 1))) := by
  obtain ⟨live, phase, operand, cursor⟩ := Codec.scanTo_frame sync hi.le
  rw [State.step_withCur hs, State.runStep_scan live.running phase,
    State.runSync_byte (Codec.syncing_of_scanPhase phase) live.fsLegal (by simpa [operand, cursor, Codec.NIN] using hi),
    State.withCur_cur, operand, cursor, Codec.scanTo, Codec.scanTo, Codec.afterBytes_succ hi]
  rfl

/-- R126, R171: one step a byte, and one more where the last byte left an escape pending. -/
theorem State.reaches_of_scanAll (hs : s.script = []) {m : Nat} (h : (s.withCur (c.scanAll sync)).Reaches m t) :
    (s.withCur (c.begin (scanPhase sync))).Reaches (c.NIN + (m + 1)) t := by
  refine State.Reaches.of_chain (S := fun i => s.withCur (c.scanTo sync i)) (fun i hi => State.step_scanTo hs hi) ?_
  obtain ⟨live, phase, operand, cursor⟩ := Codec.scanTo_frame sync (le_refl c.NIN)
  rw [← Codec.scanTo_finish] at h
  by_cases pending : (c.scanTo sync c.NIN).FS_STATE = FS_ESC
  · refine .of_step ?_ h
    rw [State.step_withCur hs, State.runStep_scan live.running phase,
      State.runSync_finish (Codec.syncing_of_scanPhase phase) (by simp [operand, cursor, Codec.NIN]) pending]
    rfl
  · rw [Codec.finishSync_of_notPending pending] at h
    exact h.mono (Nat.le_succ m)

/-- R126, R172: the step after a whole scan ends an UNSTUFF, and is the header step of a PARSE. -/
theorem State.runStep_scanAll (s : State) (sync : Bool) (c : Codec) :
    (s.withCur (c.scanAll sync)).runStep =
      if sync then (s.withCur (c.scanAll sync)).headerStep else s.put ((c.scanAll sync).complete .ok) := by
  have settled : (c.scanAll sync).Settled c.session := c.syncAll_settled sync (scanPhase sync)
  obtain ⟨cursor, phase⟩ := c.syncAll_end sync (scanPhase sync)
  have operand : (c.scanAll sync).IN = c.IN := c.syncAll_IN sync (scanPhase sync)
  have past : (c.scanAll sync).NIN ≤ (c.scanAll sync).IN_POS := (congrArg List.length operand).trans_le cursor.ge
  rw [State.runStep_scan settled.running phase, State.runSync_end settled.fsLegal past settled.notPending]
  rfl

end

/-! ## BCD2TS -/

/-- The sequencer of the codec served moves (log 3). -/
def State.inPhase (ph : Phase) (s : State) : State := s.withCur (s.cur.withPhase ph)

theorem State.tsStep_inPhase (ph : Phase) (s : State) (i : Nat) :
    (s.inPhase ph).tsStep i = (s.tsStep i).inPhase ph := by
  have moved := s.cur.tsByte_withPhase ph i (byteAt s.cur.IN i)
  exact congrArg (fun c : Codec => { s with
    cur := { c with BCD_ACC := Config.freeBcdAcc s.frees }, frees := s.frees + 1 }) moved

theorem State.tsFold_succ (s : State) (i : Nat) :
    (List.range (i + 1)).foldl State.tsStep s = ((List.range i).foldl State.tsStep s).tsStep i := by
  rw [List.range_succ, List.foldl_concat]

theorem State.runStep_bcd2ts {s : State} {i : Nat} (hb : s.cur.BUSY = true) (hp : s.cur.phase = .bcd2ts i) :
    s.runStep = s.bcd2tsStep i := by
  simp [State.runStep, hb, hp]

/-- BCD2TS at its component `i`. -/
def State.tsTo (i : Nat) (s : State) : State :=
  ((List.range i).foldl State.tsStep (s.withCur (s.cur.begin (.bcd2ts 0)))).inPhase (.bcd2ts i)

theorem State.step_tsTo {s : State} (hs : s.script = []) (i : Nat) : step (s.tsTo i) = (s.tsTo i).bcd2tsStep i := by
  have script : (s.tsTo i).script = [] := by
    rw [State.tsTo, State.tsFold_frame]
    exact hs
  have settled : ((List.range i).foldl State.tsStep (s.withCur (s.cur.begin (.bcd2ts 0)))).cur.Settled s.cur.session :=
    State.tsFold_settled (s.cur.begin_settled (.bcd2ts 0)) _
  rw [step_nil script, State.runStep_bcd2ts (s := s.tsTo i) settled.running rfl]

/-- R310: six steps, and one for the end. -/
theorem State.reaches_bcd2ts {s t : State} (hs : s.script = []) (hsix : s.cur.NIN = 6)
    (h : exec .bcd2ts s = .next t) : (s.withCur (s.cur.begin (.bcd2ts 0))).Reaches 7 t := by
  refine State.Reaches.of_chain (n := 6) (S := fun i => s.tsTo i) (fun i hi => ?_) (.last ?_)
  · rw [State.step_tsTo hs, State.bcd2tsStep, if_pos hi, State.tsTo, State.tsStep_inPhase, ← State.tsFold_succ]
    rfl
  · rw [State.step_tsTo hs, State.bcd2tsStep, if_neg (by decide), ← h, exec, execBcd2ts_of_length hsix]
    rfl

end Sys2Proof.Machine
end

section
/-! SUPPORT. Each operation run byte-serially (R59, R310): its first step, and from there to the state its one step
answers. -/

namespace Sys2Proof.Machine

/-! ## The first step -/

section
variable {s : State}

/-- R80: the operation OPSEL names begins. -/
theorem State.beginOp_unstuff (hop : s.cur.OPSEL = OP_UNSTUFF) : s.beginOp = s.put (s.cur.withPhase .unstuff) :=
  if_pos hop

theorem State.beginOp_stuff (hop : s.cur.OPSEL = OP_STUFF) : s.beginOp = s.put (s.cur.withPhase (.stuff 0)) := by
  simp [State.beginOp, hop, OP_UNSTUFF, OP_STUFF, Codec.withPhase]

theorem State.beginOp_checksum (hop : s.cur.OPSEL = OP_CHECKSUM) :
    s.beginOp = s.put (s.cur.withPhase (.checksum 0)) := by
  simp [State.beginOp, hop, OP_UNSTUFF, OP_STUFF, OP_CHECKSUM, Codec.withPhase]

theorem State.beginOp_bcd2dec (hop : s.cur.OPSEL = OP_BCD2DEC) : s.beginOp =
    if s.cur.NIN > 6 then s.put (s.cur.raise .badOperand) else s.put (s.cur.withPhase (.bcd2dec 0)) := by
  simp [State.beginOp, hop, OP_UNSTUFF, OP_STUFF, OP_CHECKSUM, OP_BCD2DEC, BCD_MAX_BYTES, Codec.withPhase]

theorem State.beginOp_bcd2ts (hop : s.cur.OPSEL = OP_BCD2TS) : s.beginOp =
    if s.cur.NIN ≠ 6 then s.putComposite (s.cur.raise .badOperand) else s.put (s.cur.withPhase (.bcd2ts 0)) := by
  simp [State.beginOp, hop, OP_UNSTUFF, OP_STUFF, OP_CHECKSUM, OP_BCD2DEC, OP_BCD2TS, Codec.withPhase]

theorem State.beginOp_parse (hop : s.cur.OPSEL = OP_PARSE) : s.beginOp = s.put (s.cur.withPhase .sync) := by
  simp [State.beginOp, hop, OP_UNSTUFF, OP_STUFF, OP_CHECKSUM, OP_BCD2DEC, OP_BCD2TS, OP_PARSE, Codec.withPhase]

theorem State.beginOp_build8001 (hop : s.cur.OPSEL = OP_BUILD8001) :
    s.beginOp = s.put (s.cur.withPhase (.reply ACK_GENERAL)) := by
  simp [State.beginOp, hop, OP_UNSTUFF, OP_STUFF, OP_CHECKSUM, OP_BCD2DEC, OP_BCD2TS, OP_PARSE, OP_BUILD8001,
    Codec.withPhase]

theorem State.beginOp_build8100 (hop : s.cur.OPSEL = 7) :
    s.beginOp = s.put (s.cur.withPhase (.reply ACK_REGISTER)) := by
  simp [State.beginOp, hop, OP_UNSTUFF, OP_STUFF, OP_CHECKSUM, OP_BCD2DEC, OP_BCD2TS, OP_PARSE, OP_BUILD8001,
    Codec.withPhase]

end

/-- The transaction-start reset of R301 is done, and the operation begins next. -/
def State.started (s : State) : State := s.withCur (s.cur.begin .begin)

theorem State.step_started {s : State} (hs : s.script = []) : step s.started = s.started.beginOp :=
  State.step_withCur hs _

/-! ## The operations -/

/-- R177: the instruction H_CMD stands for is the action dispatch takes. -/
theorem exec_decodeCommand (s : State) : exec (decodeCommand s.cur.H_CMD) s = s.putParse s.cur.dispatch := by
  unfold decodeCommand Codec.dispatch
  split_ifs <;> rfl

/-- R172 to R177: the header step and the dispatch end a PARSE as its one step does. -/
theorem State.reaches_of_synced {s t : State} (hs : s.script = []) (h : exec .parse s = .next t) :
    (s.withCur s.cur.synced).Reaches 2 t := by
  have first : step (s.withCur s.cur.synced) = (s.withCur s.cur.synced).headerStep :=
    (State.step_withCur hs _).trans (State.runStep_scanAll s true s.cur)
  have settled : s.cur.synced.Settled s.cur.session := s.cur.syncAll_settled true .sync
  rw [State.headerStep, State.withCur_cur] at first
  have raised {st : Status} (hl : s.cur.synced.loadHeader = .error st) : (s.withCur s.cur.synced).Reaches 2 t := by
    rw [hl] at first
    rw [exec_parse_of_error hl] at h
    exact (State.Reaches.last (first.trans h)).mono (by omega)
  rcases settled.loadHeader with ⟨-, hl⟩ | ⟨-, hl⟩ | ⟨d, -, hl, hd, phase, -⟩
  · exact raised hl
  · exact raised hl
  · rw [hl] at first
    rw [exec_parse_of_ok hl] at h
    refine .of_step (u := s.withCur d) first (.last ?_)
    rw [State.step_withCur hs, State.runStep_dispatch (s := s.withCur d) hd.running phase,
      State.execDecoded_ok (decode_cmdid16_bytes16 _), exec_decodeCommand]
    exact h

section
variable {s t : State} (hs : s.script = [])
include hs

theorem State.serial_unstuff (hop : s.cur.OPSEL = OP_UNSTUFF) (h : exec .unstuff s = .next t) :
    s.started.Reaches (s.cur.NIN + 3) t := by
  refine .of_step ((State.step_started hs).trans (State.beginOp_unstuff hop)) ?_
  refine State.reaches_of_scanAll (sync := false) hs (.last ?_)
  rw [State.step_withCur hs, State.runStep_scanAll]
  exact h

theorem Codec.Sequenced.serial {f : Codec → Byte → Codec} {place : Nat → Phase} {finish : Codec → Codec}
    (hf : Codec.Sequenced f place finish)
    (hbegin : s.started.beginOp = s.put (s.cur.begin (place 0)))
    (h : s.put (finish (s.cur.IN.foldl f (s.cur.begin (place 0)))) = .next t) :
    s.started.Reaches (s.cur.NIN + 2) t := by
  obtain rfl := Host.Outcome.next.inj h
  exact .of_step ((State.step_started hs).trans hbegin) (hf.reaches hs s.cur)

theorem State.serial_stuff (hop : s.cur.OPSEL = OP_STUFF) (h : exec .stuff s = .next t) :
    s.started.Reaches (s.cur.NIN + 2) t :=
  Codec.stuff_sequenced.serial hs (State.beginOp_stuff hop) h

theorem State.serial_checksum (hop : s.cur.OPSEL = OP_CHECKSUM) (h : exec .checksum s = .next t) :
    s.started.Reaches (s.cur.NIN + 2) t :=
  Codec.checksum_sequenced.serial hs (State.beginOp_checksum hop) h

/-- R273: more than six bytes are BAD_OPERAND in the first step. -/
theorem State.serial_bcd2dec (hop : s.cur.OPSEL = OP_BCD2DEC) (h : exec .bcd2dec s = .next t) :
    s.started.Reaches (s.cur.NIN + 2) t := by
  have first := State.beginOp_bcd2dec (s := s.started) hop
  rcases Nat.lt_or_ge 6 s.cur.NIN with long | fits
  · rw [exec, execBcd2dec_of_long long] at h
    have raised := (State.step_started hs).trans (first.trans (if_pos long))
    exact (State.Reaches.last (raised.trans h)).mono (by omega)
  · rw [exec, execBcd2dec_of_length fits] at h
    exact Codec.bcd2dec_sequenced.serial hs (first.trans (if_neg (not_lt.2 fits))) h

/-- R273: any length but six is BAD_OPERAND in the first step. -/
theorem State.serial_bcd2ts (hop : s.cur.OPSEL = OP_BCD2TS) (h : exec .bcd2ts s = .next t) : s.started.Reaches 8 t := by
  have first := (State.step_started hs).trans (State.beginOp_bcd2ts (s := s.started) hop)
  by_cases six : s.cur.NIN = 6
  · exact .of_step (first.trans (if_neg (not_not.2 six))) (State.reaches_bcd2ts hs six h)
  · rw [exec, execBcd2ts_of_other six] at h
    exact (State.Reaches.last (first.trans ((if_pos six).trans h))).mono (by omega)

theorem State.serial_parse (hop : s.cur.OPSEL = OP_PARSE) (h : exec .parse s = .next t) :
    s.started.Reaches (s.cur.NIN + 4) t :=
  .of_step ((State.step_started hs).trans (State.beginOp_parse hop))
    (State.reaches_of_scanAll (sync := true) hs (State.reaches_of_synced hs h))

/-- R242, R243: one step builds the reply. -/
theorem State.step_reply (rc : BitVec 16) : step (s.withCur (s.cur.begin (.reply rc))) =
    (s.withCur (s.cur.begin (.reply rc))).execDecoded .reply (bytes16 rc) :=
  (State.step_withCur hs _).trans (State.runStep_reply rfl rfl)

theorem State.serial_build8001 (hop : s.cur.OPSEL = OP_BUILD8001) (h : exec .build8001 s = .next t) :
    s.started.Reaches 2 t :=
  have built := (State.step_reply hs ACK_GENERAL).trans (State.execDecoded_ok (i := .reply8001) (more := []) rfl)
  .of_step ((State.step_started hs).trans (State.beginOp_build8001 hop)) (.last (built.trans h))

theorem State.serial_build8100 (hop : s.cur.OPSEL = 7) (h : exec .build8100 s = .next t) : s.started.Reaches 2 t :=
  have built := (State.step_reply hs ACK_REGISTER).trans (State.execDecoded_ok (i := .reply8100) (more := []) rfl)
  .of_step ((State.step_started hs).trans (State.beginOp_build8100 hop)) (.last (built.trans h))

/-- R59, R310: a byte-serial run of the loaded request ends where its one step ends. -/
theorem State.serial_exec (h : exec (decodeOpsel s.cur.OPSEL) s = .next t) :
    s.started.Reaches (max s.cur.NIN 6 + 4) t := by
  rcases opsel_cases s.cur.OPSEL with hop | hop | hop | hop | hop | hop | hop | hop <;> rw [hop] at h
  · exact (State.serial_unstuff hs hop h).mono (by omega)
  · exact (State.serial_stuff hs hop h).mono (by omega)
  · exact (State.serial_checksum hs hop h).mono (by omega)
  · exact (State.serial_bcd2dec hs hop h).mono (by omega)
  · exact (State.serial_bcd2ts hs hop h).mono (by omega)
  · exact (State.serial_parse hs hop h).mono (by omega)
  · exact (State.serial_build8001 hs hop h).mono (by omega)
  · exact (State.serial_build8100 hs hop h).mono (by omega)

end

end Sys2Proof.Machine
end

section
/-! SUPPORT. Connections that open and close (R278), the host on the codec served (R279, R280), and what a PARSE
leaves owed (R63, R279). -/

namespace Sys2Proof.Machine

/-! ## Connections -/

/-- R278: the connection whose codec is served has no second one among the others. -/
theorem State.Canonical.findConn_select {s u : State} {k : Nat} (h : s.Canonical) (hu : s.select k = some u) :
    findConn k u.others = none := by
  unfold State.select at hu
  split at hu
  · rename_i hp
    obtain rfl := Option.some.inj hu
    exact findConn_of_absent (h.servedApart k hp)
  · split at hu
    · cases hu
    · obtain rfl := Option.some.inj hu
      exact findConn_removeConn.trans (if_pos rfl)

/-- R278: an unbounded build opens any connection that is not open. -/
theorem State.openConn_of_closed {s : State} {k : Nat} (hk : s.conn k = none) (hn : s.cfg.N_INSTANCES = none) :
    s.openConn k = .next { s with port := some k, cur := Codec.reset, others := s.parked } := by
  simp [State.openConn, hk, hn]

/-! ## The host on the codec served -/

section
variable {s : State}

/-- R280: no request is written to a busy codec. -/
theorem State.load_busy (hb : s.cur.BUSY = true) (op : BitVec 3) (operand : Bytes) :
    s.load op operand = .refused .hostWhileBusy := if_pos hb

/-- R280: nor is a transaction issued to one. -/
theorem State.whenReady_busy (hb : s.cur.BUSY = true) (issued : Result) :
    s.whenReady issued = .refused .hostWhileBusy := if_pos hb

theorem State.collect_nothing (h : s.cur.session.owed = []) (k : Nat) : s.collect k = .next s := by
  simp only [State.collect, h]

theorem State.collect_duty {d : Duty} {more : List Duty} (h : s.cur.session.owed = d :: more) (k : Nat) :
    s.collect k = .next { s with
      cur := s.cur.withSession { s.cur.session with owed := more }, events := s.events ++ [d.event k] } := by
  simp only [State.collect, h]

theorem step_collect {k : Nat} {rest : List Move} (hs : s.script = .collect k :: rest) (hp : s.port = some k) :
    step s = ({ s with script := rest } : State).collect k := by
  rw [step_cons hs]
  exact State.serve_of_select (State.select_self hp)

end

/-! ## What a PARSE leaves owed -/

theorem Codec.duties_invalidFrame {c : Codec} (h : c.STATUS = 1) : c.duties = [.writeDiag] := by
  simp [Codec.duties, h, Status.code]

theorem Codec.duties_unrecognized {c : Codec} (h : c.STATUS = 2) : c.duties = [] := by
  simp [Codec.duties, h, Status.code]

theorem Codec.duties_malformed {c : Codec} (h : c.STATUS = 3) : c.duties = [.drop] := by
  simp [Codec.duties, h, Status.code]

theorem Codec.parsed_session (c : Codec) : c.parsed.session = c.session :=
  (c.parsed_register Codec.session (fun _ => rfl) fun _ => rfl).trans (congrArg Codec.session c.synced_maskScan :)

/-- R279: the host owes the duties of the result, after what it owed before. -/
theorem exec_parse_owes {s t : State} (h : exec .parse s = .next t) :
    t.cur.session = s.cur.session.owe t.cur.duties := by
  rw [exec_parse_eq] at h
  rcases s.putParse_cases s.cur.parsed with ⟨-, he⟩ | ⟨-, he⟩
  · cases he.symm.trans h
    exact congrArg (Session.owe s.cur.parsed.duties) s.cur.parsed_session
  · cases he.symm.trans h

end Sys2Proof.Machine
end

section
/-! PROOFS. The statements about the host boundary and the grain of a transaction (60_exceptions.md). -/

namespace Sys2Proof.Machine

/-- Settles O53: the start leaves the transaction-start state, and each operation runs from there to its end. -/
theorem serialRunEqualsIssuedTransaction : Obligations.SerialRunEqualsIssuedTransaction := by
  intro s t k hport hbusy howes hstep
  have served := State.select_self (s := { s with script := [] }) hport
  have started : step { s with script := [.start k] } = .next (State.started { s with script := [] }) := by
    rw [step_cons rfl, State.move, State.serve_of_select served, State.start,
      State.whenReady_ready (s := { s with script := [] }) hbusy howes]
    rfl
  rw [step_cons rfl, State.move, State.serve_of_select served,
    State.issueNow_ready (s := { s with script := [] }) hbusy howes] at hstep
  obtain ⟨n, hn, hrun⟩ := State.serial_exec rfl hstep
  exact ⟨n, hn, hrun.of_step started⟩

/-- Settles O60: what the opening and the closing answer; every other connection by O54. -/
theorem connectionsOpenAndClose : Obligations.ConnectionsOpenAndClose := by
  refine ⟨fun s rest k hcanon hscript hclosed hbound => ?_, fun s rest k hcanon hscript hopen => ?_⟩
  · have hstep := (step_cons hscript).trans (State.openConn_of_closed (s := { s with script := rest }) hclosed hbound)
    exact ⟨_, hstep, State.conn_served rfl, fun j hj =>
      otherInstancesUntouched s _ _ rest k j hcanon hscript (.inl rfl) hstep hj⟩
  · obtain ⟨c, hc⟩ := Option.ne_none_iff_exists'.1 hopen
    obtain ⟨u, hu⟩ := State.select_of_conn (s := { s with script := rest }) hc
    have hstep := (step_cons hscript).trans (State.serve_of_select (act := State.discard k) hu)
    have canon : ({ s with script := rest } : State).Canonical := { hcanon with }
    exact ⟨_, hstep, (canon.findConn_select hu :), fun j hj =>
      otherInstancesUntouched s _ _ rest k j hcanon hscript (.inr (.inl rfl)) hstep hj⟩

/-- Settles O56: the readiness tests, and a duty that reads the host's side only. -/
theorem hostHasNoMoveWhileBusy : Obligations.HostHasNoMoveWhileBusy := by
  intro s m rest k hscript hport hbusy
  have served := State.select_self (s := { s with script := rest }) hport
  refine ⟨?_, ?_⟩
  · rw [step_cons hscript]
    rintro (⟨op, x, rfl⟩ | rfl | rfl) <;> rw [State.move, State.serve_of_select served]
    · exact State.load_busy (s := { s with script := rest }) hbusy op x
    · exact State.whenReady_busy (s := { s with script := rest }) hbusy _
    · exact State.whenReady_busy (s := { s with script := rest }) hbusy _
  · rintro rfl
    cases howed : s.cur.session.owed with
    | nil =>
      refine ⟨s.cur.session, [], fun c hc => ?_⟩
      rw [step_collect (s := { s with cur := c }) hscript hport,
        State.collect_nothing (s := { s with cur := c, script := rest }) (hc ▸ howed), ← hc, List.append_nil]
      rfl
    | cons d more =>
      refine ⟨{ s.cur.session with owed := more }, [d.event k], fun c hc => ?_⟩
      rw [step_collect (s := { s with cur := c }) hscript hport,
        State.collect_duty (s := { s with cur := c, script := rest }) (hc ▸ howed), ← hc]

/-- Settles O58: the duties by STATUS, and the first one by its kind. -/
theorem collectDoesTheHostsDuty : Obligations.CollectDoesTheHostsDuty := by
  refine ⟨fun s t h => ⟨t.cur.duties, exec_parse_owes h, Codec.duties_ok, Codec.duties_invalidFrame,
    Codec.duties_unrecognized, Codec.duties_malformed⟩, fun s rest k hscript hport => ⟨fun hnone => ?_, ?_⟩⟩
  · rw [step_collect hscript hport]
    exact State.collect_nothing (s := { s with script := rest }) hnone k
  · intro d more howed
    rw [step_collect hscript hport, State.collect_duty (s := { s with script := rest }) howed]
    exact ⟨fun r hd => by rw [hd]; rfl, fun frame hd => by rw [hd]; rfl, fun hd => by rw [hd]; rfl,
      fun hd => by rw [hd]; rfl⟩

end Sys2Proof.Machine
end

section
/-! SUPPORT. What a transaction leaves is made from its request alone (R301): no machine and no action reads the host's
side (log 25), so every operation fares alike on two codecs that start alike but for it. -/

namespace Sys2Proof.Machine

/-! ## The actions and the host's side -/

section
variable (x : Session) (c : Codec)

theorem Codec.checked_withSession (action : Codec) :
    (c.withSession x).checked (action.withSession x) = (c.checked action).withSession x := by
  unfold Codec.checked
  rw [apply_ite (Codec.withSession x)]
  rfl

/-- R220, R221: an iteration of the walker. -/
theorem Codec.walkItem_withSession : (c.withSession x).walkItem = c.walkItem.map (Codec.withSession x) := by
  have blen : (c.withSession x).BLEN = c.BLEN := rfl
  have report (base lim : Nat) : (c.withSession x).singleReport base lim = c.singleReport base lim := rfl
  unfold Codec.walkItem
  simp only [blen, report, Codec.withSession_B_POS, Codec.withSession_U]
  split
  · rfl
  · split
    · rfl
    · cases c.singleReport _ _ <;> rfl

/-- R220: and all of them. -/
theorem Codec.walk_withSession (n : Nat) : (c.withSession x).walk n = (c.walk n).map (Codec.withSession x) id := by
  induction n generalizing c with
  | zero => rfl
  | succ n ih =>
    have item := c.walkItem_withSession x
    cases hi : c.walkItem with
    | none => rw [Codec.walk_of_raise hi, Codec.walk_of_raise (by rw [item, hi]; rfl)]; rfl
    | some d =>
      rw [Codec.walk_of_item hi, Codec.walk_of_item (d := d.withSession x) (by rw [item, hi]; rfl)]
      exact ih d

theorem Codec.locReport_withSession : (c.withSession x).locReport = c.locReport.withSession x := by
  refine Eq.trans (congrArg (c.withSession x).checked ?_) (c.checked_withSession x _)
  have report : (c.withSession x).singleReport HDR_END ((c.withSession x).NU - 2) =
    c.singleReport HDR_END (c.NU - 2) := rfl
  rw [report]
  cases c.singleReport HDR_END (c.NU - 2) <;> rfl

theorem Codec.batchLoc_withSession : (c.withSession x).batchLoc = c.batchLoc.withSession x := by
  refine Eq.trans (congrArg (c.withSession x).checked ?_) (c.checked_withSession x _)
  have blen : (c.withSession x).BLEN = c.BLEN := rfl
  have walk := c.walkStart.walk_withSession x (c.walkStart.B_COUNT.toNat - 1)
  have start : (c.withSession x).walkStart = c.walkStart.withSession x := rfl
  rw [blen]
  split
  · rfl
  · dsimp only
    rw [start, Codec.withSession_B_COUNT, walk]
    rcases c.walkStart.walk (c.walkStart.B_COUNT.toNat - 1) with ⟨d, _ | _⟩ <;> rfl

/-- R177: whichever action is taken. -/
theorem Codec.dispatch_withSession : (c.withSession x).dispatch = c.dispatch.withSession x := by
  unfold Codec.dispatch
  rw [Codec.withSession_H_CMD]
  split_ifs
  · exact c.locReport_withSession x
  · exact c.batchLoc_withSession x
  · exact c.checked_withSession x (c.answer c.ack8100)
  · exact c.checked_withSession x (c.answer c.ack8001)
  · exact c.checked_withSession x (c.answer c.ack8001)
  · exact c.checked_withSession x (c.raise .unrecognizedCommand)

/-- R242: the length check and the reply. -/
theorem Codec.build8001Op_withSession : (c.withSession x).build8001Op = c.build8001Op.withSession x := by
  unfold Codec.build8001Op
  rw [apply_ite (Codec.withSession x)]
  rfl

/-- R243: the length check and the reply. -/
theorem Codec.build8100Op_withSession : (c.withSession x).build8100Op = c.build8100Op.withSession x := by
  unfold Codec.build8100Op
  rw [apply_ite (Codec.withSession x)]
  rfl

end

/-! ## The operations -/

/-- The codec `c` starts a transaction as `r` does, but for the host's side: their requests are the same (R301). -/
def Codec.StartsAs (r c : Codec) : Prop := ∀ ph, c.begin ph = (r.begin ph).withSession c.session

theorem Codec.startsAs_of_request {r c : Codec} (hop : c.OPSEL = r.OPSEL) (hin : c.IN = r.IN) : r.StartsAs c := by
  intro ph
  unfold Codec.begin
  rw [hop, hin]
  rfl

section
variable {r c : Codec} (h : r.StartsAs c)
include h

theorem Codec.StartsAs.operand : c.IN = r.IN := (congrArg Codec.IN (h .begin) :)

theorem Codec.StartsAs.length : c.NIN = r.NIN := congrArg List.length h.operand

/-- R105, R127, R152: the machines that index IN themselves make the same of both. -/
theorem Codec.StartsAs.foldl {f : Codec → Byte → Codec} (hf : ∀ x c b, f (c.withSession x) b = (f c b).withSession x)
    (ph : Phase) : c.IN.foldl f (c.begin ph) = (r.IN.foldl f (r.begin ph)).withSession c.session := by
  rw [h, h.operand, Codec.foldl_withSession hf]

/-- R126, R171: so does the scanning machine. -/
theorem Codec.StartsAs.syncAll (sync : Bool) (ph : Phase) :
    (c.begin ph).syncAll sync = ((r.begin ph).syncAll sync).withSession c.session := by
  rw [h, Codec.syncAll_withSession]

/-- R170: so does PARSE. -/
theorem Codec.StartsAs.parsed : c.parsed = r.parsed.withSession c.session := by
  have synced : c.synced = r.synced.withSession c.session := h.syncAll true .sync
  have dispatch : (r.synced.withSession c.session).headed.dispatch = r.synced.headed.dispatch.withSession c.session :=
    r.synced.headed.dispatch_withSession c.session
  unfold Codec.parsed
  rw [h.operand, synced, dispatch]
  split_ifs <;> rfl

end

/-- An outcome that, if it is a state, serves the codec `d` with the host's side `x`, but for the two accumulators of
R35. -/
def Leaves (d : Codec) (x : Session) : Result → Prop
  | .next t => t.cur.maskAcc = d.maskAcc.withSession x
  | .fault _ => True
  | .refused _ => True

section
variable {d e : Codec} {x : Session} {s : State}

theorem leaves_put (h : e.maskAcc = d.maskAcc.withSession x) : Leaves d (x.owe []) (s.put e) := by
  rwa [Session.owe_nil]

theorem leaves_putComposite (h : e.maskAcc = d.maskAcc.withSession x) : Leaves d (x.owe []) (s.putComposite e) := by
  rwa [Session.owe_nil]

/-- R279: the host owes the duties of the result, which are those of its registers. -/
theorem leaves_putParse : Leaves d (x.owe d.duties) (s.putParse (d.withSession x)) := by
  unfold State.putParse
  split
  · exact (rfl : d.maskAcc.withSession _ = _)
  · trivial

end

/-- R301: what an operation leaves, and what it adds to what the host owes, is fixed by the request. -/
theorem exec_leaves {i : Instr} (hi : i.format = .opsel3) (r : Codec) :
    ∃ d more, ∀ s : State, r.StartsAs s.cur → Leaves d (s.cur.session.owe more) (exec i s) := by
  cases i with
  | unstuff =>
    exact ⟨((r.begin .unstuff).syncAll false).complete .ok, [], fun s same =>
      leaves_put (congrArg (fun e : Codec => (e.complete .ok).maskAcc) (same.syncAll false .unstuff))⟩
  | stuff =>
    exact ⟨(r.IN.foldl Codec.stuffByte (r.begin (.stuff 0))).complete .ok, [], fun s same =>
      leaves_put (congrArg (fun e : Codec => (e.complete .ok).maskAcc) (same.foldl Codec.stuffByte_withSession _))⟩
  | checksum =>
    exact ⟨(r.IN.foldl Codec.checksumByte (r.begin (.checksum 0))).checksumDone, [], fun s same =>
      leaves_put (congrArg (fun e : Codec => e.checksumDone.maskAcc) (same.foldl Codec.checksumByte_withSession _))⟩
  | bcd2dec =>
    rcases le_or_gt r.NIN 6 with fits | long
    · refine ⟨(r.IN.foldl Codec.bcdByte (r.begin (.bcd2dec 0))).bcdDone, [], fun s same => ?_⟩
      rw [exec, execBcd2dec_of_length (same.length ▸ fits), same.foldl Codec.bcdByte_withSession]
      exact leaves_put rfl
    · refine ⟨(r.begin (.bcd2dec 0)).raise .badOperand, [], fun s same => ?_⟩
      rw [exec, execBcd2dec_of_long (same.length ▸ long), same]
      exact leaves_put rfl
  | bcd2ts =>
    rcases eq_or_ne r.NIN 6 with six | other
    · refine ⟨((r.begin (.bcd2ts 0)).tsFields r.IN 6).complete .ok, [], fun s same => ?_⟩
      obtain ⟨a, fields⟩ := State.tsFold_cur 6 { s with cur := s.cur.begin (.bcd2ts 0) }
      rw [exec, execBcd2ts_of_length (same.length ▸ six), fields, Codec.begin_IN, same, same.operand,
        Codec.tsFields_withSession]
      exact leaves_putComposite rfl
    · refine ⟨(r.begin (.bcd2ts 0)).raise .badOperand, [], fun s same => ?_⟩
      rw [exec, execBcd2ts_of_other (same.length ▸ other), same]
      exact leaves_putComposite rfl
  | parse =>
    refine ⟨r.parsed, r.parsed.duties, fun s same => ?_⟩
    rw [exec_parse_eq, same.parsed]
    exact leaves_putParse
  | build8001 =>
    refine ⟨(r.begin (.reply ACK_GENERAL)).build8001Op, [], fun s same => leaves_putComposite ?_⟩
    rw [same, Codec.build8001Op_withSession]
    rfl
  | build8100 =>
    refine ⟨(r.begin (.reply ACK_REGISTER)).build8100Op, [], fun s same => leaves_putComposite ?_⟩
    rw [same, Codec.build8100Op_withSession]
    rfl
  | _ => cases hi

end Sys2Proof.Machine
end

section
/-! PROOFS. The statements about reset and about what survives it (70_reset_and_hazards.md). -/

namespace Sys2Proof.Machine

/-- Settles O46: both states start as the first one's codec does. -/
theorem nothingSurvivesATransaction : Obligations.NothingSurvivesATransaction := by
  intro i s s' t t' hi hop hin ht ht'
  obtain ⟨d, more, leaves⟩ := exec_leaves hi s.cur
  have left : t.cur.maskAcc = d.maskAcc.withSession (s.cur.session.owe more) :=
    (ht ▸ leaves s (Codec.startsAs_of_request rfl rfl) :)
  have left' : t'.cur.maskAcc = d.maskAcc.withSession (s'.cur.session.owe more) :=
    (ht' ▸ leaves s' (Codec.startsAs_of_request hop.symm hin.symm) :)
  refine ⟨?_, more, (congrArg Codec.session left :), (congrArg Codec.session left' :)⟩
  rw [left, left']
  rfl

/-- Settles O1: every register of the reset state, evaluated. -/
theorem resetRegisterValues : Obligations.ResetRegisterValues := by
  unfold Obligations.ResetRegisterValues
  decide

/-- Settles O3: the codec is ready, and its start is the reset of R301. -/
theorem startClearsAllButTheRequest : Obligations.StartClearsAllButTheRequest := by
  intro s k rest hscript hport hbusy howes
  have served := State.select_self (s := { s with script := rest }) hport
  rw [step_cons hscript, State.move, State.serve_of_select served, State.start,
    State.whenReady_ready (s := { s with script := rest }) hbusy howes]
  rfl

end Sys2Proof.Machine
end
